-- ==== Sys2Proof/Word.lean ====
section
/-! DEFINITION. The words the FH-480's links and tables are made of. -/

namespace Sys2Proof

/-- A byte of the trunk, of the lane bus or of a canonical table entry. -/
abbrev Byte := BitVec 8

/-- The 16-bit check of a trunk frame (R187) and of a lane bus frame (R188). -/
abbrev Check := BitVec 16

/-- The 32-bit signature of a loaded table (R12). -/
abbrev Signature := BitVec 32

end Sys2Proof
end

