-- ==== Sys2Proof/Syntax.lean ====
section
/-! DEFINITION. The commands of the FH-480: one constructor for each row of spec/opcode_table.json. A row is an event
at one of the part's interfaces, or the taking of a request by the request processor. -/

namespace Sys2Proof

/-- A lane's two light beams: A on the approach side, B on the platform side (R77). -/
inductive Beam where
  | a
  | b
deriving DecidableEq, Repr

/-- The commands. A lane operand is a lane number, 1 to 8. A `bytes` operand is the bytes that arrive on the trunk's
receive line (R164) or on the lane bus (R42). The commands IDENT to REPORT_CONFIG and UNKNOWN_REQUEST are the taking of
the OLDEST WAITING request by the request processor (R167): their operands are the bytes of that request's payload,
which `requestArrival` brought into the request queue. -/
inductive Instr where
  /-- COLD_START (R18): power-up with the retention domain lost. -/
  | coldStart
  /-- WARM_START (R177): the RESET pin, or power-up with the retention domain intact. -/
  | warmStart
  /-- REQUEST_ARRIVAL (R166): the bytes of a REQUEST frame arrive on the trunk. -/
  | requestArrival (bytes : List Byte)
  /-- FRAME_DISCARDED (R164): the bytes of a frame that fails arrive on the trunk. -/
  | frameDiscarded (bytes : List Byte)
  /-- FRAME_SILENCE_TIMEOUT (R164): the bytes arrive on the trunk and 2 ms of silence follow. -/
  | frameSilenceTimeout (bytes : List Byte)
  /-- UNEXPECTED_FRAME (R165): the bytes of a good frame of a kind the server has no reason to send arrive. -/
  | unexpectedFrame (bytes : List Byte)
  /-- PAUSE_REPORTS (R183): the bytes of a PAUSE_REPORTS frame arrive on the trunk. -/
  | pauseReports (bytes : List Byte)
  /-- RESUME_REPORTS (R183): the bytes of a RESUME_REPORTS frame arrive on the trunk. -/
  | resumeReports (bytes : List Byte)
  /-- UNKNOWN_REQUEST (R167): the request taken holds no request code, or one that names no request. -/
  | unknownRequest
  /-- IDENT (R175), code 1. -/
  | ident
  /-- STATUS_READ (R174), code 2. -/
  | statusRead
  /-- UNIT_RESET (R176), code 3. -/
  | unitReset
  /-- LOAD_BEGIN (R8), code 16: table, mode, first index, block count. -/
  | loadBegin
  /-- LOAD_BLOCK (R9), code 17: table, 16 canonical entries. -/
  | loadBlock
  /-- LOAD_END (R10), code 18: table, expected signature. -/
  | loadEnd
  /-- LOAD_CHECK_COMPLETE (R11): the signature check begun by LOAD_END completes. -/
  | loadCheckComplete
  /-- LOAD_ABORT (R13), code 19. -/
  | loadAbort
  /-- TABLE_ACTIVATE (R14), code 20: table. -/
  | tableActivate
  /-- TABLE_INFO (R16), code 21. -/
  | tableInfo
  /-- TABLE_READ (R17), code 22: table, bank, block index. -/
  | tableRead
  /-- PASS_STORE (R28), code 32: one record in transfer form. -/
  | passStore
  /-- PASS_FETCH (R31), code 33: serial. -/
  | passFetch
  /-- PASS_REMOVE (R32), code 34: serial. -/
  | passRemove
  /-- PASS_SCAN (R33), code 35: after-serial, count. -/
  | passScan
  /-- LANE_HOLD (R101), code 48: lane. -/
  | laneHold
  /-- LANE_RELEASE (R103), code 49: lane. -/
  | laneRelease
  /-- GATE_COMMAND (R104), code 50: lane, command. -/
  | gateCommand
  /-- FAULT_CLEAR (R116), code 51: lane. -/
  | faultClear
  /-- LANE_CONFIG (R120), code 52: lane, presence field, nine settings. -/
  | laneConfig
  /-- BANK_CONFIG (R121), code 53: presence field, three settings. -/
  | bankConfig
  /-- LANE_STATUS (R122), code 54: lane. -/
  | laneStatus
  /-- LANE_RESET (R123), code 55: lane. -/
  | laneReset
  /-- COUNTERS_READ (R130), code 64: selector. -/
  | countersRead
  /-- COUNTERS_CLEAR_SEASON (R131), code 65: selector. -/
  | countersClearSeason
  /-- DAY_OPEN (R136), code 66: day, time of day. -/
  | dayOpen
  /-- DAY_OPEN_COMPLETE (R138): the walk of the pass usage table ends. -/
  | dayOpenComplete
  /-- DAY_CLOSE (R139), code 67. -/
  | dayClose
  /-- TIME_SET (R135), code 68: time of day. -/
  | timeSet
  /-- REFUND_QUOTE (R144), code 80: serial. -/
  | refundQuote
  /-- REFUND_COMMIT (R145), code 81: serial. -/
  | refundCommit
  /-- REPORT_CONFIG (R184), code 96: presence field, trigger level, dwell time. -/
  | reportConfig
  /-- FRAME_SENT (R171): the frame being sent on the trunk ends. -/
  | frameSent
  /-- DWELL_EXPIRY (R181): the dwell timer runs out. -/
  | dwellExpiry
  /-- ROUND_START (R40): a polling round begins. -/
  | roundStart
  /-- REPLY_RECEIVED (R42): the bytes of a reply on the lane bus, ended by 0.1 ms of quiet. -/
  | replyReceived (bytes : List Byte)
  /-- POLL_TIMEOUT (R42): no reply has ended within 3 ms of the poll. -/
  | pollTimeout
  /-- BEAM_INPUT_CHANGE (R77): a raw beam input takes a level (`true` is blocked). -/
  | beamInputChange (lane : Nat) (beam : Beam) (blocked : Bool)
  /-- BEAM_CHANGE_ACCEPTED (R77): the beam's debounce runs its 50 ms. -/
  | beamChangeAccepted (lane : Nat) (beam : Beam)
  /-- LOITER (R81): the lane's loiter timer runs out. -/
  | loiter (lane : Nat)
  /-- GRANT_DEADLINE (R93): the lifetime timer of the lane's grant runs out. -/
  | grantDeadline (lane : Nat)
  /-- ARM_CLOSED (R106): the arm-closed input takes a level (`true` is active, the row's event). -/
  | armClosed (lane : Nat) (active : Bool)
  /-- CLOSE_LIMIT_EXPIRY (R106): the lane's close-limit timer runs out. -/
  | closeLimitExpiry (lane : Nat)
  /-- OBSTRUCTION_INPUT_CHANGE (R115): the raw obstruction input takes a level (`true` is active). -/
  | obstructionInputChange (lane : Nat) (active : Bool)
  /-- OBSTRUCTION_CHANGE_ACCEPTED (R115): the obstruction debounce runs its 20 ms. -/
  | obstructionChangeAccepted (lane : Nat)
  /-- REARM_TIMER_EXPIRY (R118): the lane's re-arm timer runs out. -/
  | rearmTimerExpiry (lane : Nat)
  /-- WINDOW_OPEN_AT (R109): the lane timer reaches OPEN_AT. -/
  | windowOpenAt (lane : Nat)
  /-- WINDOW_CLOSE_AT (R109): the lane timer of a paced lane reaches CLOSE_AT. -/
  | windowCloseAt (lane : Nat)
  /-- CARRIER_SYNC_EDGE (R112): an inactive-to-active edge on the carrier-sync input. -/
  | carrierSyncEdge
  /-- INTERNAL_CARRIER_TICK (R112): the internal carrier generator's period ends. -/
  | internalCarrierTick
  /-- SYNC_LOSS (R113): the sync-loss timer reaches its limit. -/
  | syncLoss
  /-- CLOCK_SECOND (R133): the second in progress ends. -/
  | clockSecond
deriving DecidableEq, Repr

end Sys2Proof
end

