-- ==== Sys2Proof/Config.lean ====
section
/-! DEFINITION. What the manual fixes for the part as a whole (capacities, fixed times, generators), and the free
values: constants without a body, for what the manual leaves open. -/

namespace Sys2Proof.Config

/-- Records of the pass usage table (R21, R175). -/
def passCapacity : Nat := 4096
/-- Records of the report queue (R178, R175). -/
def reportCapacity : Nat := 256
/-- The count whose reaching raises REPORT_BACKLOG (R180). -/
def backlogMark : Nat := 192
/-- Records one batch may carry (R182). -/
def batchRecords : Nat := 32
/-- Payload bytes one trunk frame may carry (R163). -/
def payloadLimit : Nat := 1024
/-- Requests the request queue holds (R166). -/
def queueCapacity : Nat := 4
/-- Answers the BUSY list holds (R166). -/
def busyCapacity : Nat := 8
/-- Days of the season (R4). -/
def seasonDays : Nat := 208
/-- Seconds of a day (R133). -/
def daySeconds : Nat := 86400
/-- Where the daily counters saturate (R126). -/
def dailyMax : Nat := 65535
/-- Where the season counters wrap (R128). -/
def seasonModulus : Nat := 4294967296

/-- Beam debounce in milliseconds (R77). -/
def beamDebounce : Nat := 50
/-- Obstruction debounce in milliseconds (R115). -/
def obstructionDebounce : Nat := 20
/-- Reply timeout in milliseconds (R42). -/
def replyTimeout : Nat := 3
/-- Least time between the beginnings of two rounds, in milliseconds (R40). -/
def roundTime : Nat := 10
/-- Age in milliseconds above which a waiting credential is stale (R73). -/
def staleAge : Nat := 5000
/-- Least time in milliseconds from a sync event to an accepted edge (R112). -/
def edgeSpacing : Nat := 500
/-- Trunk silence in milliseconds that discards a partial frame (R164). -/
def frameSilence : Nat := 2
/-- Offline skip after a failed poll of an OFFLINE head (R43). -/
def offlineSkip : Nat := 7

/-- Generator of the table signature (R12). -/
def signatureGenerator : Signature := 0x04C11DB7#32
/-- Generator of the frame check (R187). -/
def checkGenerator : Check := 0x1021#16

/-- FREE VALUE (DESIGN CHOICE, log entry 10): byte `i` of a response item sent in `n` bytes whose value `v` does not
fit `n` bytes. R187 fixes the widths and does not say what such an item holds. -/
opaque unfit : (n v i : Nat) → Byte

/-- FREE VALUE (DESIGN CHOICE, log entry 13): whether a LANE_CONFIG that changes PACED to FREE and AUTO_CLEAR to
LATCHED at once clears a re-armed OBSTRUCTION (as the first change says) or leaves it set (as the second says). R120
gives both effects and no order. -/
opaque rearmedClearsFirst : Bool

end Sys2Proof.Config
end

