-- ==== Sys2Proof/Machine/Bytes.lean ====
section
/-! DEFINITION. Byte order, item widths and cyclic checks: how numbers stand in the bytes of the two links and of the
table signature (R12, R186 to R188). -/

namespace Sys2Proof.Machine

/-- The low `n` bytes of `v`, most significant byte first (chapter 11). -/
def be : (n v : Nat) → List Byte
  | 0, _ => []
  | n + 1, v => BitVec.ofNat 8 (v / 256 ^ n) :: be n v

/-- The number that bytes hold, most significant byte first (chapter 11). -/
def ofBe (bs : List Byte) : Nat := bs.foldl (fun v b => 256 * v + b.toNat) 0

/-- `n` zero bytes: an absent item at its width (R187). -/
def zeros (n : Nat) : List Byte := List.replicate n 0#8

/-- An item of width `n` (R187). Where the value does not fit the width its bytes are free (log entry 10). -/
def item (n v : Nat) : List Byte :=
  if v < 256 ^ n then be n v else (List.range n).map (Config.unfit n v)

/-- A flag item (R187): 0 clear, 1 set. -/
def flag (b : Bool) : List Byte := [if b then 1#8 else 0#8]

/-- An item that may be absent (R187): a presence byte, then the item at its width, zero bytes when it is absent. -/
def optItem {α : Type} (width : Nat) (o : Option α) (enc : α → List Byte) : List Byte :=
  match o with
  | none => 0#8 :: zeros width
  | some a => 1#8 :: enc a

/-- The bits of a byte in the order they enter a check: most significant first (R12). -/
def bitsOf (b : Byte) : List Bool := [7, 6, 5, 4, 3, 2, 1, 0].map b.getLsbD

/-- One bit of a cyclic check (R12): the input bit is compared with the top bit, the value moves one place toward the
top, and it is combined with the generator where the two bits differed. -/
def crcBit {w : Nat} (generator value : BitVec w) (bit : Bool) : BitVec w :=
  if bit = value.msb then value <<< 1 else (value <<< 1) ^^^ generator

/-- A cyclic check over bytes, starting from all ones, with no inversion at the end (R12, R187). -/
def crc {w : Nat} (generator : BitVec w) (bytes : List Byte) : BitVec w :=
  bytes.foldl (fun v b => (bitsOf b).foldl (crcBit generator) v) (BitVec.allOnes w)

/-- The signature of a table's canonical bytes (R12). -/
def signatureOf (bytes : List Byte) : Signature := crc Config.signatureGenerator bytes

/-- The check of a trunk or lane bus frame (R187, R188). -/
def frameCheck (bytes : List Byte) : Check := crc Config.checkGenerator bytes

/-- The number at offset `off`, `n` bytes wide, of a payload or transfer form. -/
def numberAt (bs : List Byte) (off n : Nat) : Nat := ofBe ((bs.drop off).take n)

/-- Bit `n` of a presence field: bit 0 is the least significant bit of its last byte (R187). -/
def bitOf (v n : Nat) : Bool := v.testBit n

end Sys2Proof.Machine
end

