-- ==== Sys2Proof/Machine/Memory.lean ====
section
/-! DEFINITION. The bytes of a table bank. A bank is held as the list of its non-zero bytes by address, addresses
strictly rising; an unlisted address reads as zero, which is what every empty entry is made of (R6, R18, R190). -/

namespace Sys2Proof.Machine

/-- The contents of one table bank (R6): position `i` of a table whose canonical entry has `n` bytes lies at addresses
`n * i` to `n * i + n - 1`. -/
abbrev Memory := List Host.Cell

/-- What an unlisted address reads as: every byte of an empty entry is zero (R190). -/
def unlistedByte : Byte := 0#8

/-- The byte at an address. -/
def Memory.read : Memory → Nat → Byte
  | [], _ => unlistedByte
  | (k, v) :: rest, a => if k = a then v else Memory.read rest a

/-- Writing one byte. Writing what an unlisted address reads as takes the entry out. -/
def Memory.write : Memory → Nat → Byte → Memory
  | [], a, b => if b = unlistedByte then [] else [(a, b)]
  | (k, v) :: rest, a, b =>
    if a < k then (if b = unlistedByte then (k, v) :: rest else (a, b) :: (k, v) :: rest)
    else if a = k then (if b = unlistedByte then rest else (a, b) :: rest)
    else (k, v) :: Memory.write rest a b

/-- Writing bytes at consecutive addresses from `a`. -/
def Memory.writeBytes : Memory → Nat → List Byte → Memory
  | m, _, [] => m
  | m, a, b :: bs => Memory.writeBytes (m.write a b) (a + 1) bs

/-- The `n` bytes from address `a`. -/
def Memory.readBytes (m : Memory) : (a n : Nat) → List Byte
  | _, 0 => []
  | a, n + 1 => m.read a :: Memory.readBytes m (a + 1) n

/-- The number held most significant byte first in the `n` bytes from address `a`. -/
def Memory.readNumber (m : Memory) (a n : Nat) : Nat := ofBe (m.readBytes a n)

/-- The canonical form: addresses strictly rising from `low`, and no entry equal to what an unlisted address reads as. -/
def Memory.wfFrom : Nat → Memory → Bool
  | _, [] => true
  | low, (k, v) :: rest => decide (low ≤ k) && decide (v ≠ unlistedByte) && Memory.wfFrom (k + 1) rest

/-- The canonical form of a bank's contents: equal banks are equal lists. -/
def Memory.wf (m : Memory) : Bool := Memory.wfFrom 0 m

end Sys2Proof.Machine
end

