-- ==== Sys2Proof/Machine/State.lean ====
section
/-! DEFINITION. The state of the FH-480, block by block as the block overview of spec/00_scope.md lists it, and its
value after a cold start. Times of day are in seconds, every timer in milliseconds. -/

namespace Sys2Proof.Machine

/-- A lane, by its index: lane number minus 1. -/
abbrev Lane.Index := Fin 8

/-- A running timer that was started with a limit of its own: milliseconds run, and the limit. -/
structure Timer where
  elapsed : Nat
  limit   : Nat
deriving DecidableEq, Repr

/-! ## Table store (R6, R7) -/

/-- The three loaded tables (R187 numbers them 1 to 3). -/
inductive TableId where
  | products
  | hotList
  | days
deriving DecidableEq, Repr

/-- The shadow states of R6. -/
inductive ShadowState where
  | empty
  | loading
  | loaded
  | checking
  | verified
  | corrupt
  | stale
deriving DecidableEq, Repr

/-- The two load modes of R8. -/
inductive LoadMode where
  | fresh
  | patch
deriving DecidableEq, Repr

/-- One table: its two banks, their signatures and the shadow state (R6). -/
structure Banks where
  active     : Memory
  activeSig  : Option Signature
  shadow     : Memory
  shadowSig  : Option Signature
  shadowState : ShadowState
deriving DecidableEq, Repr

/-- An open load transaction (R7). `expected` is the signature LOAD_END gave, present while the check runs (R10). -/
structure LoadTransaction where
  table     : TableId
  mode      : LoadMode
  first     : Nat
  count     : Nat
  remaining : Nat
  expected  : Option Signature
deriving DecidableEq, Repr

/-! ## Pass record store (R20) -/

/-- The refund part of a REFUNDED record (R20). -/
structure Refund where
  amount       : Nat
  referenceDay : Nat
deriving DecidableEq, Repr

/-- Where a record came from (R20). -/
inductive Origin where
  | loaded
  | admitted
deriving DecidableEq, Repr

/-- A pass record (R20). Its state is REFUNDED exactly when the refund part is present, so the refund part alone is
held. Used days are in ascending order. -/
structure PassRecord where
  serial      : Nat
  product     : Nat
  firstDay    : Nat
  window      : Nat
  pricePaid   : Option Nat
  usedDays    : List Nat
  ridesToday  : Nat
  lastPassage : Option Nat
  refund      : Option Refund
  grantLane   : Option Lane.Index
  origin      : Origin
deriving DecidableEq, Repr

/-! ## Lane bus controller (R39) -/

/-- The twenty denial reasons of R58, in the order of their numbers. -/
inductive DenialReason where
  | laneHeld
  | laneFault
  | liftStopped
  | dayNotOpen
  | clockNotSet
  | dayUnscheduled
  | dayClosed
  | outsideHours
  | blocked
  | unknownPass
  | unknownProduct
  | wrongLane
  | refunded
  | inUse
  | notYet
  | expired
  | daysExhausted
  | rideLimit
  | passback
  | tableFull
deriving DecidableEq, Repr

/-- The verdict kinds of R47 and what each carries. -/
inductive Verdict where
  | grant (allowance : Nat)
  | deny (reason : DenialReason)
  | dup
  | wait
  | retap
deriving DecidableEq, Repr

/-- Whether a head is answering (R39). -/
inductive ReaderState where
  | offline
  | online
deriving DecidableEq, Repr

/-- The pass medium (R45). -/
inductive MediaKind where
  | card
  | token
deriving DecidableEq, Repr

/-- The last credential of a reader context (R39). -/
structure LastCredential where
  serial  : Nat
  media   : MediaKind
  quality : Nat
  time    : Nat
deriving DecidableEq, Repr

/-- A reader context (R39). -/
structure ReaderContext where
  state          : ReaderState
  failures       : Nat
  offlineSkip    : Nat
  lastTag        : Option Nat
  verdict        : Option Verdict
  carried        : Bool
  lastCredential : Option LastCredential
deriving DecidableEq, Repr

/-- The poll outstanding on the lane bus (R40, R41): the lane polled, what the poll carried, whether the lane was
disabled since (R49: the reply then has no effect on the context), and the milliseconds since the poll. -/
structure Poll where
  lane    : Lane.Index
  verdict : Option Verdict
  ackTag  : Option Nat
  void    : Bool
  elapsed : Nat
deriving DecidableEq, Repr

/-- The lane bus: the outstanding poll, and the milliseconds since the last round began, absent before the first round
after a start (R40). -/
structure Bus where
  poll       : Option Poll
  sinceRound : Option Nat
deriving DecidableEq, Repr

/-! ## Admission unit (R53) -/

/-- A waiting credential (R53). -/
structure Waiting where
  serial   : Nat
  product  : Nat
  firstDay : Nat
  arrival  : Nat
  age      : Nat
deriving DecidableEq, Repr

/-! ## Grant and passage unit (R70, R77, R78) -/

/-- The three states of a grant (R84). -/
inductive GrantState where
  | waiting
  | opened
  | draining
deriving DecidableEq, Repr

/-- A grant (R70), with its lifetime timer and the lifetime it was created with (R83). -/
structure Grant where
  serial    : Nat
  product   : Nat
  allowance : Nat
  passages  : Nat
  state     : GrantState
  committed : Bool
  created   : Nat
  deadline  : Nat
  lifetime  : Timer
deriving DecidableEq, Repr

/-- The nine recognizer states of R78. -/
inductive Recognizer where
  | clear
  | enterF
  | crossF
  | leaveF
  | followF
  | enterR
  | crossR
  | leaveR
  | followR
deriving DecidableEq, Repr

/-- A debounced input (R77, R115): the raw level, the accepted level, and the milliseconds of the debounce in progress. -/
structure Debounce where
  raw      : Bool
  accepted : Bool
  running  : Option Nat
deriving DecidableEq, Repr

/-! ## Gate drive and pacing unit (R100 to R124) -/

/-- The three gate commands (R104, R105). -/
inductive GateCommand where
  | openArm
  | closeArm
  | freeArm
deriving DecidableEq, Repr

/-- The four lane modes. A HELD lane holds its held command, which is absent in the other modes (R100). -/
inductive LaneMode where
  | auto
  | holdPending
  | held (command : GateCommand)
  | disabled
deriving DecidableEq, Repr

/-- The four gate states. A CLOSING gate holds its close-limit timer, which runs in no other state (R105, R106). -/
inductive GateState where
  | shut
  | opened
  | closing (limit : Timer)
  | released
deriving DecidableEq, Repr

/-- The two fault kinds (R115). -/
inductive FaultKind where
  | obstruction
  | stuck
deriving DecidableEq, Repr

/-- The fault kinds present on a lane. -/
structure FaultSet where
  obstruction : Bool
  stuck       : Bool
deriving DecidableEq, Repr

/-- Re-arm timing of an AUTO_CLEAR obstruction (R118): none, the re-arm timer running, or the re-armed mark. -/
inductive Rearm where
  | idle
  | timing (timer : Timer)
  | rearmed
deriving DecidableEq, Repr

/-- The pace modes of a lane (R108, R109). -/
inductive PaceMode where
  | free
  | paced
deriving DecidableEq, Repr

/-- The fault modes of a lane (R116, R118). -/
inductive FaultMode where
  | latched
  | autoClear
deriving DecidableEq, Repr

/-- The two offsets of a loading window, in milliseconds (section 6.3). -/
structure Window where
  openAt  : Nat
  closeAt : Nat
deriving DecidableEq, Repr

/-- The running lane timer `t`, and whether it has reached the effective OPEN_AT and CLOSE_AT since it started
(R108 to R110). -/
structure LaneTimer where
  t           : Nat
  openReached : Bool
  closeReached : Bool
deriving DecidableEq, Repr

/-- The lane settings of R120 but for `enable`, which is the mode's. -/
structure Settings where
  pace       : PaceMode
  fault      : FaultMode
  pending    : Window
  lifetime   : Nat
  loiterTime : Nat
  closeLimit : Nat
  rearmTime  : Nat
deriving DecidableEq, Repr

/-! ## Count unit (R126 to R128) -/

/-- A lane's twelve daily and two season counters (R126, R128). -/
structure Counts where
  grants           : Nat
  completed        : Nat
  lapsed           : Nat
  riders           : Nat
  reverse          : Nat
  intrusions       : Nat
  tailgates        : Nat
  denials          : Nat
  staff            : Nat
  loiters          : Nat
  readErrors       : Nat
  faults           : Nat
  ridersSeason     : Nat
  intrusionsSeason : Nat
deriving DecidableEq, Repr

/-- Everything the blocks hold for one lane. -/
structure Lane where
  reader      : ReaderContext
  waiting     : Option Waiting
  beamA       : Debounce
  beamB       : Debounce
  recognizer  : Recognizer
  loiterTimer : Option Timer
  loiterMark  : Bool
  grant       : Option Grant
  mode        : LaneMode
  gate        : GateState
  armClosed   : Bool
  obstruction : Debounce
  faults      : FaultSet
  rearm       : Rearm
  timer       : Option LaneTimer
  effective   : Window
  carry       : Bool
  settings    : Settings
  counts      : Counts
deriving DecidableEq, Repr

/-- Where sync events come from (R112). -/
inductive PaceSource where
  | external
  | internal
deriving DecidableEq, Repr

/-- The lift state (R113). -/
inductive LiftState where
  | stopped
  | running
deriving DecidableEq, Repr

/-- The bank-wide pacing state (R112, R113, R121): source, lift state, the two settings, the sync-loss timer while it
runs, the internal generator's period while it runs, the milliseconds since the last sync event and since the last
accepted external edge that measures, and the measured carrier period. -/
structure Pacing where
  source         : PaceSource
  lift           : LiftState
  internalPeriod : Nat
  syncLossTime   : Nat
  syncLoss       : Option Nat
  generator      : Option Timer
  sinceSync      : Option Nat
  sinceEdge      : Option Nat
  measured       : Option Nat
deriving DecidableEq, Repr

/-! ## Day clock (R133) -/

/-- The day state (R133, R134). OPENING holds the day being opened, the time of day its DAY_OPEN took, and the former
state: absent for NO_DAY, `some d` for DAY_CLOSED(d) (R136). -/
inductive DayState where
  | noDay
  | opening (day : Nat) (timeTaken : Nat) (former : Option Nat)
  | dayOpen (day : Nat)
  | dayClosed (day : Nat)
deriving DecidableEq, Repr

/-- The day clock (R133): day state, time of day, milliseconds of the second in progress, and whether the clock is SET.
Today is read off the day state. -/
structure DayClock where
  dayState    : DayState
  timeOfDay   : Nat
  millisecond : Nat
  isSet       : Bool
deriving DecidableEq, Repr

/-! ## Report queue (R178, R179) -/

/-- The event of a LANE_EVENT record (R179). -/
inductive LaneEvent where
  | readerLost
  | readerBack
  | faultSet (kind : FaultKind)
  | faultCleared (kind : FaultKind)
  | holdEntered
  | holdLeft
  | loiter
deriving DecidableEq, Repr

/-- The five counters of one lane that a DAY_SUMMARY carries, or the five bank totals (R140). -/
structure SummaryRow where
  grants     : Nat
  completed  : Nat
  lapsed     : Nat
  riders     : Nat
  intrusions : Nat
deriving DecidableEq, Repr

/-- The eleven kinds of usage record and their fields (R179). -/
inductive RecordBody where
  | grantClosed (serial : Nat) (lane : Lane.Index) (passages : Nat)
  | grantLapsed (serial : Nat) (lane : Lane.Index)
  | intrusion (lane : Lane.Index)
  | tailgate (lane : Lane.Index) (serial : Nat)
  | hotHit (serial : Nat) (lane : Lane.Index)
  | passCreated (serial product firstDay : Nat)
  | refund (serial amount referenceDay closed partialDays future : Nat)
  | laneEvent (lane : Lane.Index) (event : LaneEvent)
  | liftEvent (lift : LiftState)
  | dayOpened (day purged : Nat)
  | daySummary (day : Nat) (lanes : List SummaryRow) (totals : SummaryRow)
deriving DecidableEq, Repr

/-- A usage record: the three items filled at the append, and the fields of its kind (R178). -/
structure UsageRecord where
  day   : Option Nat
  time  : Nat
  isSet : Bool
  body  : RecordBody
deriving DecidableEq, Repr

/-- The report queue (R178 to R184). -/
structure ReportQueue where
  records   : List UsageRecord
  withheld  : Nat
  paused    : Bool
  trigger   : Nat
  dwellTime : Nat
  dwell     : Option Timer
  dwellMark : Bool
deriving DecidableEq, Repr

/-! ## Trunk interface (R163 to R177) -/

/-- The receiving side (R164): hunting for a start byte, or assembling, with the bytes received after the start byte. -/
inductive Receiver where
  | hunting
  | assembling (got : List Byte)
deriving DecidableEq, Repr

/-- The three conditions of a queued request (R166). An answered one holds its RESPONSE payload. -/
inductive Condition where
  | waiting
  | taken
  | answered (response : List Byte)
deriving DecidableEq, Repr

/-- A request in the request queue: its tag, its payload and its condition (R166). -/
structure Request where
  tag       : Byte
  payload   : List Byte
  condition : Condition
deriving DecidableEq, Repr

/-- A BUSY answer waiting to be sent: the tag and the request code of the request it answers (R166, R186). -/
structure BusyAnswer where
  tag  : Byte
  code : Byte
deriving DecidableEq, Repr

/-- Which list an answer that is ready to send stands in (R171). -/
inductive AnswerSource where
  | response
  | busy
deriving DecidableEq, Repr

/-- What the frame being sent is (R171). -/
inductive FrameSource where
  | attention
  | answer (source : AnswerSource)
  | batch
deriving DecidableEq, Repr

/-- The frame being sent on the trunk (R163). -/
structure OutFrame where
  source  : FrameSource
  kind    : Byte
  tag     : Byte
  payload : List Byte
deriving DecidableEq, Repr

/-- The attention cause set (R173). A cause that carries a lane set is present exactly when its lane set is not empty;
bit n - 1 of a lane set stands for lane n (R187). -/
structure CauseSet where
  coldStart      : Bool
  warmStart      : Bool
  readerLost     : Byte
  laneFault      : Byte
  liftStopped    : Bool
  reportBacklog  : Bool
  reportOverflow : Bool
deriving DecidableEq, Repr

/-- The attention state (R173). -/
inductive AttentionState where
  | quiet
  | pending
  | sent
deriving DecidableEq, Repr

/-- The trunk interface: receiver, request queue (head first), BUSY answers, the answers not yet begun in the order in
which they became ready, the frame being sent, the send count, the attention cause set and state, and whether a
UNIT_RESET has been answered, so that no further request is taken (R176). -/
structure Trunk where
  receiver  : Receiver
  queue     : List Request
  busy      : List BusyAnswer
  ready     : List AnswerSource
  sending   : Option OutFrame
  sendCount : Nat
  causes    : CauseSet
  attention : AttentionState
  resetting : Bool
deriving DecidableEq, Repr

/-! ## The whole part -/

/-- The state of the part, and the commands that wait at its interfaces, first in first out. -/
structure State where
  products : Banks
  hotList  : Banks
  days     : Banks
  load     : Option LoadTransaction
  passes   : List PassRecord
  bus      : Bus
  lanes    : Vector Lane 8
  pacing   : Pacing
  clock    : DayClock
  denials  : Vector Nat 20
  riders   : Vector Nat 64
  reports  : ReportQueue
  trunk    : Trunk
  pending  : List Instr
deriving DecidableEq, Repr

/-- A stop with a fault. No rule of the manual stops the part, so there is none. -/
inductive Fault where
deriving DecidableEq, Repr

/-- A refusal of a command. -/
inductive Refusal where
  /-- Raised by an arm of `exec` for a command that has no meaning yet, and by no meaning. Safe: the run stops. -/
  | notModelled (mnemonic : String)
deriving DecidableEq, Repr

/-! ## After a cold start -/

/-- A table after cold start: both banks empty (R18). -/
def Banks.reset : Banks :=
  { active := [], activeSig := none, shadow := [], shadowSig := none, shadowState := .empty }

/-- A reader context after a start (R51). -/
def ReaderContext.reset : ReaderContext :=
  { state := .offline, failures := 0, offlineSkip := 0, lastTag := none, verdict := none, carried := false,
    lastCredential := none }

/-- An open input: inactive, clear or not closed (section 11.5; log entry 5). -/
def Debounce.reset : Debounce := { raw := false, accepted := false, running := none }

/-- The cold-start defaults of R120. -/
def Settings.reset : Settings :=
  { pace := .free, fault := .latched, pending := { openAt := 0, closeAt := 4000 }, lifetime := 12, loiterTime := 8,
    closeLimit := 1500, rearmTime := 2000 }

/-- The counters after cold start (R132). -/
def Counts.reset : Counts :=
  { grants := 0, completed := 0, lapsed := 0, riders := 0, reverse := 0, intrusions := 0, tailgates := 0, denials := 0,
    staff := 0, loiters := 0, readErrors := 0, faults := 0, ridersSeason := 0, intrusionsSeason := 0 }

/-- A lane after a cold start with every input open: close is issued, so the gate is CLOSING (R124). -/
def Lane.reset : Lane :=
  { reader := .reset, waiting := none, beamA := .reset, beamB := .reset, recognizer := .clear, loiterTimer := none,
    loiterMark := false, grant := none, mode := .auto, gate := .closing { elapsed := 0, limit := 1500 },
    armClosed := false, obstruction := .reset, faults := { obstruction := false, stuck := false }, rearm := .idle,
    timer := none, effective := { openAt := 0, closeAt := 4000 }, carry := false, settings := .reset, counts := .reset }

/-- The bank's pacing after cold start (R121, R124). -/
def Pacing.reset : Pacing :=
  { source := .external, lift := .stopped, internalPeriod := 8000, syncLossTime := 10, syncLoss := none,
    generator := none, sinceSync := none, sinceEdge := none, measured := none }

/-- The day clock after cold start (R141). -/
def DayClock.reset : DayClock := { dayState := .noDay, timeOfDay := 0, millisecond := 0, isSet := false }

/-- The report queue after cold start (R185). -/
def ReportQueue.reset : ReportQueue :=
  { records := [], withheld := 0, paused := false, trigger := 8, dwellTime := 500, dwell := none, dwellMark := false }

/-- The empty attention cause set. -/
def CauseSet.empty : CauseSet :=
  { coldStart := false, warmStart := false, readerLost := 0#8, laneFault := 0#8, liftStopped := false,
    reportBacklog := false, reportOverflow := false }

/-- The trunk interface after cold start (R177). -/
def Trunk.reset : Trunk :=
  { receiver := .hunting, queue := [], busy := [], ready := [], sending := none, sendCount := 0,
    causes := { CauseSet.empty with coldStart := true }, attention := .pending, resetting := false }

/-- The part right after a cold start with every input open (R18, R38, R51, R53, R97, R124, R132, R141, R177, R185). -/
def State.reset : State :=
  { products := .reset, hotList := .reset, days := .reset, load := none, passes := [],
    bus := { poll := none, sinceRound := none }, lanes := Vector.replicate 8 .reset, pacing := .reset, clock := .reset,
    denials := Vector.replicate 20 0, riders := Vector.replicate 64 0, reports := .reset, trunk := .reset, pending := [] }

end Sys2Proof.Machine
end

