-- ==== Sys2Proof/Machine/Operands.lean ====
section
/-! DEFINITION. The forms of chapter 11: named values as codes, trunk frames, lane bus frames, the pass record transfer
form and the usage record forms (R186 to R191). -/

namespace Sys2Proof.Machine

/-! ## Lanes and named values -/

/-- The lane number of a lane, 1 to 8. -/
def laneNumber (l : Lane.Index) : Nat := l.val + 1

/-- The lane with a lane number; none for a number outside 1 to 8. -/
def laneOf (n : Nat) : Option Lane.Index :=
  if h : 1 ≤ n ∧ n ≤ 8 then some ⟨n - 1, by omega⟩ else none

/-- The lanes 1 to 8 in ascending order. -/
def allLanes : List Lane.Index := [0, 1, 2, 3, 4, 5, 6, 7]

/-- The lane's bit of a lane set: bit n - 1 stands for lane n (R187). -/
def laneBit (l : Lane.Index) : Byte := 1#8 <<< l.val

/-- The table a table number names (R187). -/
def tableOf (b : Byte) : Option TableId :=
  if b = 1#8 then some .products else if b = 2#8 then some .hotList else if b = 3#8 then some .days else none

/-- The number of a table (R187). -/
def TableId.code : TableId → Nat
  | .products => 1
  | .hotList => 2
  | .days => 3

/-- Entries a table holds (section 1.4). -/
def TableId.capacity : TableId → Nat
  | .products => 64
  | .hotList => 1024
  | .days => 208

/-- Bytes of a table's canonical entry (section 1.4, R189). -/
def TableId.entrySize : TableId → Nat
  | .products => 24
  | .hotList => 5
  | .days => 6

/-- Blocks of 16 entries a table holds (section 1.4, R17). -/
def TableId.blocks : TableId → Nat
  | .products => 4
  | .hotList => 64
  | .days => 13

/-- Load mode codes (R187). -/
def LoadMode.ofCode (b : Byte) : Option LoadMode :=
  if b = 0#8 then some .fresh else if b = 1#8 then some .patch else none

/-- Load mode codes (R187). -/
def LoadMode.code : LoadMode → Nat
  | .fresh => 0
  | .patch => 1

/-- Shadow state codes, in the order of R6 (R187). -/
def ShadowState.code : ShadowState → Nat
  | .empty => 0
  | .loading => 1
  | .loaded => 2
  | .checking => 3
  | .verified => 4
  | .corrupt => 5
  | .stale => 6

/-- Gate command codes (R187). -/
def GateCommand.ofCode (b : Byte) : Option GateCommand :=
  if b = 0#8 then some .openArm else if b = 1#8 then some .closeArm else if b = 2#8 then some .freeArm else none

/-- Gate command codes (R187). -/
def GateCommand.code : GateCommand → Nat
  | .openArm => 0
  | .closeArm => 1
  | .freeArm => 2

/-- Pace mode codes (R187). -/
def PaceMode.ofCode (b : Byte) : Option PaceMode :=
  if b = 0#8 then some .free else if b = 1#8 then some .paced else none

/-- Pace mode codes (R187). -/
def PaceMode.code : PaceMode → Nat
  | .free => 0
  | .paced => 1

/-- Fault mode codes (R187). -/
def FaultMode.ofCode (b : Byte) : Option FaultMode :=
  if b = 0#8 then some .latched else if b = 1#8 then some .autoClear else none

/-- Fault mode codes (R187). -/
def FaultMode.code : FaultMode → Nat
  | .latched => 0
  | .autoClear => 1

/-- Enable codes (R187). -/
def enableOf (b : Byte) : Option Bool :=
  if b = 0#8 then some false else if b = 1#8 then some true else none

/-- Pace source codes (R187). -/
def PaceSource.ofCode (b : Byte) : Option PaceSource :=
  if b = 0#8 then some .external else if b = 1#8 then some .internal else none

/-- Pace source codes (R187). -/
def PaceSource.code : PaceSource → Nat
  | .external => 0
  | .internal => 1

/-- Lane mode codes (R187). -/
def LaneMode.code : LaneMode → Nat
  | .auto => 0
  | .holdPending => 1
  | .held _ => 2
  | .disabled => 3

/-- The held command, absent in every mode but HELD (R100). -/
def LaneMode.heldCommand : LaneMode → Option GateCommand
  | .held c => some c
  | _ => none

/-- Gate state codes (R187). -/
def GateState.code : GateState → Nat
  | .shut => 0
  | .opened => 1
  | .closing _ => 2
  | .released => 3

/-- Grant state codes (R187). -/
def GrantState.code : GrantState → Nat
  | .waiting => 0
  | .opened => 1
  | .draining => 2

/-- Recognizer state codes, in the order of R78 (R187). -/
def Recognizer.code : Recognizer → Nat
  | .clear => 0
  | .enterF => 1
  | .crossF => 2
  | .leaveF => 3
  | .followF => 4
  | .enterR => 5
  | .crossR => 6
  | .leaveR => 7
  | .followR => 8

/-- Reader state codes (R187). -/
def ReaderState.code : ReaderState → Nat
  | .offline => 0
  | .online => 1

/-- Day state codes (R187). -/
def DayState.code : DayState → Nat
  | .noDay => 0
  | .opening _ _ _ => 1
  | .dayOpen _ => 2
  | .dayClosed _ => 3

/-- Clock state codes (R187): 0 NOT_SET, 1 SET. -/
def clockCode (isSet : Bool) : Nat := if isSet then 1 else 0

/-- Lift state codes (R187). -/
def LiftState.code : LiftState → Nat
  | .stopped => 0
  | .running => 1

/-- Attention state codes (R187). -/
def AttentionState.code : AttentionState → Nat
  | .quiet => 0
  | .pending => 1
  | .sent => 2

/-- Media kind codes (R188). -/
def MediaKind.ofCode (b : Byte) : Option MediaKind :=
  if b = 0#8 then some .card else if b = 1#8 then some .token else none

/-- Media kind codes (R188). -/
def MediaKind.code : MediaKind → Nat
  | .card => 0
  | .token => 1

/-- The number of a denial reason (R58). -/
def DenialReason.number : DenialReason → Nat
  | .laneHeld => 1
  | .laneFault => 2
  | .liftStopped => 3
  | .dayNotOpen => 4
  | .clockNotSet => 5
  | .dayUnscheduled => 6
  | .dayClosed => 7
  | .outsideHours => 8
  | .blocked => 9
  | .unknownPass => 10
  | .unknownProduct => 11
  | .wrongLane => 12
  | .refunded => 13
  | .inUse => 14
  | .notYet => 15
  | .expired => 16
  | .daysExhausted => 17
  | .rideLimit => 18
  | .passback => 19
  | .tableFull => 20

/-- Verdict kind codes (R188). -/
def Verdict.kind : Verdict → Nat
  | .grant _ => 1
  | .deny _ => 2
  | .dup => 3
  | .wait => 4
  | .retap => 5

/-- The value a verdict carries (R188). -/
def Verdict.value : Verdict → Nat
  | .grant a => a
  | .deny r => r.number
  | _ => 0

/-- A fault set as a byte: bit 0 OBSTRUCTION, bit 1 STUCK (R187). -/
def FaultSet.code (f : FaultSet) : Nat := (if f.obstruction then 1 else 0) + (if f.stuck then 2 else 0)

/-! ## Requests and results -/

/-- The twenty result codes of R170. -/
inductive Result where
  | ok
  | busy
  | badRequest
  | badValue
  | notFound
  | tableFull
  | passInGrant
  | loadOpen
  | loadNotOpen
  | loadIncomplete
  | signatureMismatch
  | orderError
  | notReady
  | dayOrder
  | dayNotSet
  | notRefundable
  | alreadyRefunded
  | nothingToRefund
  | laneState
  | unknownProduct
deriving DecidableEq, Repr

/-- The number of a result code (R170). -/
def Result.code : Result → Nat
  | .ok => 0
  | .busy => 1
  | .badRequest => 2
  | .badValue => 3
  | .notFound => 4
  | .tableFull => 5
  | .passInGrant => 6
  | .loadOpen => 7
  | .loadNotOpen => 8
  | .loadIncomplete => 9
  | .signatureMismatch => 10
  | .orderError => 11
  | .notReady => 12
  | .dayOrder => 13
  | .dayNotSet => 14
  | .notRefundable => 15
  | .alreadyRefunded => 16
  | .nothingToRefund => 17
  | .laneState => 18
  | .unknownProduct => 19

/-- The request codes that name a request (R186). -/
def requestCodes : List Byte :=
  [1#8, 2#8, 3#8] ++ [16#8, 17#8, 18#8, 19#8, 20#8, 21#8, 22#8] ++ [32#8, 33#8, 34#8, 35#8] ++
    [48#8, 49#8, 50#8, 51#8, 52#8, 53#8, 54#8, 55#8] ++ [64#8, 65#8, 66#8, 67#8, 68#8] ++ [80#8, 81#8] ++ [96#8]

/-- The request code an answer to a request carries: that of its payload, or 0 when the payload is empty (R186; log
entry 12). -/
def answerCode (payload : List Byte) : Byte := payload.headD 0#8

/-! ## Trunk frames (R163, R186, R187) -/

/-- The start byte of a trunk frame. -/
def startByte : Byte := 0x7E#8

/-- The bytes of a trunk frame (R186). -/
def trunkFrame (kind tag : Byte) (payload : List Byte) : List Byte :=
  let body := be 2 payload.length ++ kind :: tag :: payload
  startByte :: body ++ be 2 (frameCheck body).toNat

/-- The bytes of the frame being sent (R186). -/
def OutFrame.bytes (f : OutFrame) : List Byte := trunkFrame f.kind f.tag f.payload

/-- What the receiver makes of the bytes it has assembled after a start byte (R164). -/
inductive Judgement where
  | incomplete
  | discarded
  | good (kind tag : Byte) (payload : List Byte)
deriving DecidableEq, Repr

/-- The judgement of R164 over the bytes received after the start byte. -/
def judgeFrame (got : List Byte) : Judgement :=
  match got with
  | hi :: lo :: rest =>
    let len := ofBe [hi, lo]
    if Config.payloadLimit < len then .discarded
    else
      match rest with
      | kind :: tag :: tail =>
        if tail.length < len + 2 then .incomplete
        else if be 2 (frameCheck (hi :: lo :: kind :: tag :: tail.take len)).toNat = tail.drop len then
          .good kind tag (tail.take len)
        else .discarded
      | _ => .incomplete
  | _ => .incomplete

/-! ## Lane bus frames (R188) -/

/-- The sync byte of a lane bus frame. -/
def syncByte : Byte := 0xA5#8

/-- The bytes of a poll (R188). -/
def Poll.bytes (p : Poll) : List Byte :=
  let body := be 1 (laneNumber p.lane) ++
    (match p.verdict with
      | none => [0#8, 0#8]
      | some v => be 1 v.kind ++ be 1 v.value) ++
    (match p.ackTag with
      | none => [0xFF#8]
      | some t => be 1 t)
  syncByte :: body ++ be 2 (frameCheck body).toNat

/-- The credential a reader head reports (R45). -/
structure Credential where
  tag      : Nat
  serial   : Nat
  product  : Nat
  firstDay : Nat
  media    : MediaKind
  quality  : Nat
deriving DecidableEq, Repr

/-- The good replies (section 3.3). -/
inductive Reply where
  | idle
  | credential (c : Credential)
  | health
deriving DecidableEq, Repr

/-- A credential from the body of a CREDENTIAL reply, when it is well formed (R45, R188). -/
def credentialOf (body : List Byte) : Option Credential :=
  match body with
  | [tag, s4, s3, s2, s1, s0, product, firstDay, media, quality] =>
    let serial := ofBe [s4, s3, s2, s1, s0]
    match MediaKind.ofCode media with
    | some m =>
      if tag.toNat ≤ 15 ∧ 1 ≤ serial ∧ firstDay.toNat ≤ 207 ∧ quality.toNat ≤ 3 then
        some { tag := tag.toNat, serial := serial, product := product.toNat, firstDay := firstDay.toNat, media := m,
               quality := quality.toNat }
      else none
    | none => none
  | _ => none

/-- A reply body by its kind code (R188): none for a kind or a body that makes the poll fail (R42). -/
def replyOf (kind : Byte) (body : List Byte) : Option Reply :=
  if kind = 0#8 then (if body = [] then some .idle else none)
  else if kind = 1#8 then (credentialOf body).map .credential
  else if kind = 2#8 then (if body = [0#8] then some .health else none)
  else none

/-- The judgement of a reply to a poll of a lane (R42): the good reply, or none when the poll fails. The bytes are those
received from the sync byte on. -/
def judgeReply (l : Lane.Index) (bytes : List Byte) : Option Reply :=
  match bytes with
  | _ :: rest =>
    let body := rest.take (rest.length - 2)
    if 2 ≤ rest.length ∧ be 2 (frameCheck body).toNat = rest.drop (rest.length - 2) then
      match body with
      | address :: kind :: more => if address.toNat = laneNumber l then replyOf kind more else none
      | _ => none
    else none
  | [] => none

/-- The bytes of a CREDENTIAL reply from a lane's head (R188). -/
def credentialReply (l : Lane.Index) (c : Credential) : List Byte :=
  let body := be 1 (laneNumber l) ++ 1#8 :: be 1 c.tag ++ be 5 c.serial ++ be 1 c.product ++ be 1 c.firstDay ++
    be 1 c.media.code ++ be 1 c.quality
  syncByte :: body ++ be 2 (frameCheck body).toNat

/-- The bytes of an IDLE reply from a lane's head (R188). -/
def idleReply (l : Lane.Index) : List Byte :=
  let body := be 1 (laneNumber l) ++ [0#8]
  syncByte :: body ++ be 2 (frameCheck body).toNat

/-! ## The pass record transfer form (R190) -/

/-- A byte of the 208-bit used-days map: day 0 in the top bit of the first byte (R190). -/
def usedDaysByte (days : List Nat) (k : Nat) : Byte :=
  (List.range 8).foldl (fun b j => if days.contains (8 * k + j) then b ||| (0x80#8 >>> j) else b) 0#8

/-- The used-days map of 26 bytes (R190). -/
def usedDaysMap (days : List Nat) : List Byte := (List.range 26).map (usedDaysByte days)

/-- The days of a used-days map, in ascending order (R190). -/
def usedDaysOf (map : List Byte) : List Nat :=
  (List.range Config.seasonDays).filter (fun d => (map.getD (d / 8) 0#8).getLsbD (7 - d % 8))

/-- A pass record in transfer form, 47 bytes (R190). -/
def PassRecord.transferForm (r : PassRecord) : List Byte :=
  let marks := (if r.pricePaid.isSome then 1 else 0) + (if r.lastPassage.isSome then 2 else 0) +
    (if r.refund.isSome then 12 else 0) + (if r.origin = .admitted then 16 else 0)
  item 5 r.serial ++ item 1 r.product ++ item 1 r.firstDay ++ item 1 r.window ++ item 1 marks ++
    item 3 (r.pricePaid.getD 0) ++ item 1 r.ridesToday ++ item 3 (r.lastPassage.getD 0) ++
    item 3 ((r.refund.map Refund.amount).getD 0) ++ item 1 ((r.refund.map Refund.referenceDay).getD 0) ++
    item 1 ((r.grantLane.map laneNumber).getD 0) ++ usedDaysMap r.usedDays

/-- What a transfer form says, before the checks of R28: the record with its grant lane absent and its origin LOADED
(R29), and the two bits that must agree, state REFUNDED and refund present (R190). -/
structure StoredForm where
  record        : PassRecord
  refundedState : Bool
  refundPresent : Bool
deriving DecidableEq, Repr

/-- Reading a transfer form of 47 bytes (R190). -/
def storedForm (bs : List Byte) : StoredForm :=
  let marks := numberAt bs 8 1
  { record :=
      { serial := numberAt bs 0 5, product := numberAt bs 5 1, firstDay := numberAt bs 6 1, window := numberAt bs 7 1,
        pricePaid := if bitOf marks 0 then some (numberAt bs 9 3) else none,
        usedDays := usedDaysOf (bs.drop 21), ridesToday := numberAt bs 12 1,
        lastPassage := if bitOf marks 1 then some (numberAt bs 13 3) else none,
        refund := if bitOf marks 3 then some { amount := numberAt bs 16 3, referenceDay := numberAt bs 19 1 } else none,
        grantLane := none, origin := .loaded },
    refundedState := bitOf marks 2, refundPresent := bitOf marks 3 }

/-! ## Usage record forms (R191) -/

/-- Fault kind codes of a usage record (R191). -/
def FaultKind.code : FaultKind → Nat
  | .obstruction => 1
  | .stuck => 2

/-- The event code and the fault kind of a LANE_EVENT (R191). -/
def LaneEvent.codes : LaneEvent → Nat × Nat
  | .readerLost => (1, 0)
  | .readerBack => (2, 0)
  | .faultSet k => (3, k.code)
  | .faultCleared k => (4, k.code)
  | .holdEntered => (5, 0)
  | .holdLeft => (6, 0)
  | .loiter => (7, 0)

/-- Record kind codes, in the order of R179 (R191). -/
def RecordBody.kind : RecordBody → Nat
  | .grantClosed _ _ _ => 1
  | .grantLapsed _ _ => 2
  | .intrusion _ => 3
  | .tailgate _ _ => 4
  | .hotHit _ _ => 5
  | .passCreated _ _ _ => 6
  | .refund _ _ _ _ _ _ => 7
  | .laneEvent _ _ => 8
  | .liftEvent _ => 9
  | .dayOpened _ _ => 10
  | .daySummary _ _ _ => 11

/-- A row of a DAY_SUMMARY with each value in `n` bytes (R191). -/
def SummaryRow.bytes (n : Nat) (r : SummaryRow) : List Byte :=
  item n r.grants ++ item n r.completed ++ item n r.lapsed ++ item n r.riders ++ item n r.intrusions

/-- The fields of a record in the order of R179 (R191). -/
def RecordBody.bytes : RecordBody → List Byte
  | .grantClosed serial l passages => item 5 serial ++ item 1 (laneNumber l) ++ item 1 passages
  | .grantLapsed serial l => item 5 serial ++ item 1 (laneNumber l)
  | .intrusion l => item 1 (laneNumber l)
  | .tailgate l serial => item 1 (laneNumber l) ++ item 5 serial
  | .hotHit serial l => item 5 serial ++ item 1 (laneNumber l)
  | .passCreated serial product firstDay => item 5 serial ++ item 1 product ++ item 1 firstDay
  | .refund serial amount day rc rp rf =>
    item 5 serial ++ item 3 amount ++ item 1 day ++ item 1 rc ++ item 1 rp ++ item 1 rf
  | .laneEvent l e => item 1 (laneNumber l) ++ item 1 e.codes.1 ++ item 1 e.codes.2
  | .liftEvent .stopped => item 1 1
  | .liftEvent .running => item 1 2
  | .dayOpened day purged => item 1 day ++ item 2 purged
  | .daySummary day lanes totals => item 1 day ++ lanes.flatMap (SummaryRow.bytes 2) ++ totals.bytes 3

/-- The bytes of a usage record (R191). -/
def UsageRecord.bytes (r : UsageRecord) : List Byte :=
  item 1 r.body.kind ++ (match r.day with | none => [0xFF#8] | some d => item 1 d) ++ item 3 r.time ++
    item 1 (clockCode r.isSet) ++ r.body.bytes

/-- The attention cause set as an ATTENTION payload carries it (R187). -/
def CauseSet.bytes (c : CauseSet) : List Byte :=
  item 1 ((if c.coldStart then 1 else 0) + (if c.warmStart then 2 else 0) + (if c.readerLost = 0#8 then 0 else 4) +
    (if c.laneFault = 0#8 then 0 else 8) + (if c.liftStopped then 16 else 0) + (if c.reportBacklog then 32 else 0) +
    (if c.reportOverflow then 64 else 0)) ++ [c.readerLost, c.laneFault]

end Sys2Proof.Machine
end

