-- ==== Sys2Proof/Machine/Flags.lean ====
section
/-! DEFINITION. What the blocks read off the state without changing it: table lookups with their clamps (R2 to R5), the
loading window, the derived gate command and the gate's moves (R105 to R110), the recognizer's moves (R78), the outputs
that follow the state, and the conditions of the report queue and the request processor. -/

namespace Sys2Proof.Machine

/-! ## Table lookups (R2, R3, R4, R5, R190) -/

/-- The classes of a product (R1, R190). -/
inductive ProductClass where
  | day
  | multiDay
  | season
deriving DecidableEq, Repr

/-- The class a stored class code names (R190). -/
def classOf (code : Nat) : Option ProductClass :=
  if code = 0 then some .day else if code = 1 then some .multiDay else if code = 2 then some .season else none

/-- Class codes (R190). -/
def ProductClass.code : ProductClass → Nat
  | .day => 0
  | .multiDay => 1
  | .season => 2

/-- A product entry's fields as used (R2). -/
structure Product where
  cls           : ProductClass
  window        : Nat
  allowed       : Nat
  riders        : Nat
  rideLimit     : Nat
  passback      : Nat
  price         : Nat
  refundable    : Bool
  futureRate    : Nat
  partialRate   : Nat
  fee           : Nat
  minimum       : Nat
  step          : Nat
  lanes         : Byte
  admitUnlisted : Bool
deriving DecidableEq, Repr

/-- A value brought into a range: the nearer end where it lies outside. -/
def clampTo (low high v : Nat) : Nat := max low (min high v)

/-- The `n`-byte field at offset `off` of the product entry with a code (R189). -/
def productField (m : Memory) (code off n : Nat) : Nat := m.readNumber (24 * code + off) n

/-- W as used (R2). -/
def windowAsUsed (c : ProductClass) (stored : Nat) : Nat :=
  match c with
  | .season => 208
  | _ => clampTo 1 14 stored

/-- S as used (R2). -/
def stepAsUsed (stored : Nat) : Nat := if stored ∈ [1, 5, 10, 25, 50, 100] then stored else 1

/-- The product lookup (R2): "not valid" is none; otherwise the fields as used, clamped. -/
def lookupProduct (m : Memory) (code : Nat) : Option Product :=
  if 64 ≤ code ∨ productField m code 0 1 ≠ 1 then none
  else
    match classOf (productField m code 1 1) with
    | none => none
    | some c =>
      let window := windowAsUsed c (productField m code 2 1)
      some
        { cls := c, window := window, allowed := clampTo 1 window (productField m code 3 1),
          riders := clampTo 1 6 (productField m code 4 1), rideLimit := min 250 (productField m code 5 1),
          passback := min 60 (productField m code 6 1), price := min 999999 (productField m code 7 4),
          refundable := productField m code 11 1 == 1, futureRate := min 100 (productField m code 12 1),
          partialRate := min 100 (productField m code 13 1), fee := min 99999 (productField m code 14 3),
          minimum := min 99999 (productField m code 17 3), step := stepAsUsed (productField m code 20 2),
          lanes := m.read (24 * code + 22), admitUnlisted := productField m code 23 1 == 1 }

/-- The serial at a position of a hot list bank (R3, R189). -/
def hotSerial (m : Memory) (i : Nat) : Nat := m.readNumber (5 * i) 5

/-- The hot list lookup (R3). Serial 0 is not listed. -/
def listed (m : Memory) (serial : Nat) : Bool :=
  serial != 0 && (List.range 1024).any (fun i => hotSerial m i == serial)

/-- The first offending position of a hot list (R11): the lowest position from 1 whose serial is non-zero while the
serial before it is zero or not less than it. -/
def firstOutOfOrder (m : Memory) : Option Nat :=
  (List.range 1024).find? (fun i => decide
    (1 ≤ i ∧ hotSerial m i ≠ 0 ∧ (hotSerial m (i - 1) = 0 ∨ hotSerial m i ≤ hotSerial m (i - 1))))

/-- The status of a day (R4). -/
inductive DayStatus where
  | unscheduled
  | isOpen
  | isPartial
  | isClosed
deriving DecidableEq, Repr

/-- The status a stored code is used as (R4, R190). -/
def statusOf (code : Nat) : DayStatus :=
  if code = 1 then .isOpen else if code = 2 then .isPartial else if code = 3 then .isClosed else .unscheduled

/-- The day lookup's status (R4). A day above 207 answers as the empty entry. -/
def dayStatus (m : Memory) (d : Nat) : DayStatus :=
  if d < Config.seasonDays then statusOf (m.readNumber (6 * d) 2) else .unscheduled

/-- The opening minute as used (R4). -/
def openingMinute (m : Memory) (d : Nat) : Nat :=
  if d < Config.seasonDays then min 1439 (m.readNumber (6 * d + 2) 2) else 0

/-- The closing minute as used (R4). -/
def closingMinute (m : Memory) (d : Nat) : Nat :=
  if d < Config.seasonDays then min 1439 (m.readNumber (6 * d + 4) 2) else 0

/-- The hours test (R5) over the minutes `o` and `c` as used: whether `now` lies within. -/
def withinHours (o c now : Nat) : Bool :=
  let m := now / 60
  if o < c then decide (o ≤ m ∧ m < c) else if c < o then decide (o ≤ m ∨ m < c) else true

/-- Today (R133): the day state's day, absent in NO_DAY. -/
def DayState.today : DayState → Option Nat
  | .noDay => none
  | .opening d _ _ => some d
  | .dayOpen d => some d
  | .dayClosed d => some d

/-- Seconds from an earlier time of day to a later one (R133). -/
def secondsSince (earlier now : Nat) : Nat := (now + Config.daySeconds - earlier) % Config.daySeconds

/-! ## Timers -/

/-- Milliseconds left on a timer. -/
def Timer.left (t : Timer) : Nat := t.limit - t.elapsed

/-- A timer that has run `ms` more. -/
def Timer.run (t : Timer) (ms : Nat) : Timer := { t with elapsed := t.elapsed + ms }

/-- A timer just started with a limit. -/
def Timer.start (limit : Nat) : Timer := { elapsed := 0, limit := limit }

/-! ## Faults, windows and the gate (R105 to R110) -/

/-- Whether the lane has a fault (section 6.5). -/
def FaultSet.any (f : FaultSet) : Bool := f.obstruction || f.stuck

/-- Whether a kind is in the set. -/
def FaultSet.has (f : FaultSet) : FaultKind → Bool
  | .obstruction => f.obstruction
  | .stuck => f.stuck

/-- The set with a kind added. -/
def FaultSet.add (f : FaultSet) : FaultKind → FaultSet
  | .obstruction => { f with obstruction := true }
  | .stuck => { f with stuck := true }

/-- The set with the kinds of `k` taken out. -/
def FaultSet.remove (f k : FaultSet) : FaultSet :=
  { obstruction := f.obstruction && !k.obstruction, stuck := f.stuck && !k.stuck }

/-- The kinds of a set, OBSTRUCTION first. R119 and R179 give no order for the FAULT_CLEARED records of two kinds cleared at
once; they are appended in this one (DESIGN CHOICE, log entry 24). -/
def FaultSet.kinds (f : FaultSet) : List FaultKind :=
  (if f.obstruction then [.obstruction] else []) ++ (if f.stuck then [.stuck] else [])

/-- A lane timer at its start, t = 0, under a window: it has already reached an offset of 0 (R108, R109). -/
def LaneTimer.start (w : Window) : LaneTimer :=
  { t := 0, openReached := w.openAt == 0, closeReached := w.closeAt == 0 }

/-- Whether a paced lane's window is active under a running timer (R109, R110). -/
def pacedActive (w : Window) (carry : Bool) (t : LaneTimer) : Bool :=
  if w.openAt < w.closeAt then t.openReached && !t.closeReached
  else if w.closeAt < w.openAt then t.openReached || (carry && !t.closeReached)
  else false

/-- Whether the lane's window is active (R108, R109, R110). -/
def Lane.windowActive (x : Lane) : Bool :=
  match x.timer with
  | none => false
  | some t =>
    match x.settings.pace with
    | .free => x.grant.isSome && t.openReached
    | .paced => pacedActive x.effective x.carry t

/-- The carry mark a sync computes for the period that is ending (R110): whether the window became active by t reaching
OPEN_AT. A window with OPEN_AT = CLOSE_AT is never active. R110 leaves open whether a window with OPEN_AT = 0 that was
active just before the period began, and so has no break, "became active" in it; here it did, since t reached 0 (DESIGN
CHOICE, log entry 21). -/
def Lane.nextCarry (x : Lane) : Bool :=
  match x.timer with
  | none => false
  | some t => t.openReached && x.effective.openAt != x.effective.closeAt

/-- Whether a grant takes passages and may have its gate open: WAITING or OPEN (R84). -/
def Grant.live (g : Grant) : Bool := g.state != .draining

/-- Whether the derived command is open (R107). -/
def Lane.derivedOpen (x : Lane) (lift : LiftState) : Bool :=
  (match x.grant with | none => false | some g => g.live) && x.windowActive && !x.faults.any &&
    (x.settings.pace == .free || lift == .running)

/-- The command that governs the lane's gate (R100, R107). -/
def Lane.governing (x : Lane) (lift : LiftState) : GateCommand :=
  match x.mode with
  | .held c => c
  | .disabled => .closeArm
  | _ => if x.derivedOpen lift then .openArm else .closeArm

/-- The gate state of a gate that enters CLOSING (R106): SHUT at once when the arm-closed input is active. -/
def Lane.closingGate (x : Lane) : GateState :=
  if x.armClosed then .shut else .closing (Timer.start x.settings.closeLimit)

/-- The gate state after a command is issued (R105). While a fault is present a command has no effect. -/
def Lane.gateAfter (x : Lane) (c : GateCommand) : GateState :=
  if x.faults.any then x.gate
  else
    match c with
    | .openArm => .opened
    | .freeArm => .released
    | .closeArm =>
      match x.gate with
      | .shut => .shut
      | .closing t => .closing t
      | .opened => x.closingGate
      | .released => x.closingGate

/-- The state the derived command gives a grant (R107): DRAINING is left alone. -/
def Grant.derive (g : Grant) (isOpen : Bool) : Grant :=
  if g.live then { g with state := if isOpen then .opened else .waiting } else g

/-- Whether the mode lets arrivals and passages reach the grant: AUTO or HOLD_PENDING (R80, R100). -/
def LaneMode.serving : LaneMode → Bool
  | .auto => true
  | .holdPending => true
  | _ => false

/-- The gate drive open output (R105). -/
def Lane.driveOpen (x : Lane) : Bool := x.gate == .opened

/-- The gate drive close output (R105): driven in CLOSING and SHUT. -/
def Lane.driveClose (x : Lane) : Bool :=
  match x.gate with
  | .shut => true
  | .closing _ => true
  | _ => false

/-! ## The recognizer (R78, R82) -/

/-- The direction of a passage (R80). -/
inductive Direction where
  | forward
  | reverse
deriving DecidableEq, Repr

/-- The recognizer's move at an accepted change of a beam, and the passage it produces (R78). -/
def Recognizer.move : Recognizer → Beam → Recognizer × Option Direction
  | .clear, .a => (.enterF, none)
  | .clear, .b => (.enterR, none)
  | .enterF, .a => (.clear, none)
  | .enterF, .b => (.crossF, none)
  | .crossF, .a => (.leaveF, none)
  | .crossF, .b => (.enterF, none)
  | .leaveF, .a => (.followF, none)
  | .leaveF, .b => (.clear, some .forward)
  | .followF, .a => (.leaveF, none)
  | .followF, .b => (.enterF, some .forward)
  | .enterR, .a => (.crossR, none)
  | .enterR, .b => (.clear, none)
  | .crossR, .a => (.enterR, none)
  | .crossR, .b => (.leaveR, none)
  | .leaveR, .a => (.clear, some .reverse)
  | .leaveR, .b => (.followR, none)
  | .followR, .a => (.enterR, some .reverse)
  | .followR, .b => (.leaveR, none)

/-- The levels of beams A and B that a recognizer state fixes (R78). -/
def Recognizer.levels : Recognizer → Bool × Bool
  | .clear => (false, false)
  | .enterF => (true, false)
  | .crossF => (true, true)
  | .leaveF => (false, true)
  | .followF => (true, true)
  | .enterR => (false, true)
  | .crossR => (true, true)
  | .leaveR => (true, false)
  | .followR => (true, true)

/-- The state a recognizer is placed in by the accepted levels (R82). -/
def Recognizer.placed : (a b : Bool) → Recognizer
  | false, false => .clear
  | true, false => .enterF
  | false, true => .enterR
  | true, true => .crossF

/-! ## Report queue and trunk -/

/-- Whether the report queue calls for a batch (R182). -/
def ReportQueue.calls (q : ReportQueue) : Bool :=
  !q.paused && (decide (q.trigger ≤ q.records.length) || q.dwellMark)

/-- The trigger level a value is taken as (R184): the nearest member of the set below it, and 1 below 1. -/
def triggerTaken (v : Nat) : Nat :=
  if 32 ≤ v then 32 else if 16 ≤ v then 16 else if 8 ≤ v then 8 else if 4 ≤ v then 4 else 1

/-- How many of the oldest records a batch takes (R182): up to `room` records while their bytes fit in `space`. -/
def batchSize : (room space : Nat) → List UsageRecord → Nat
  | 0, _, _ => 0
  | _, _, [] => 0
  | room + 1, space, r :: rs =>
    if r.bytes.length ≤ space then 1 + batchSize room (space - r.bytes.length) rs else 0

/-- The oldest waiting request of the queue, when no queued request is taken and not yet answered (R167). -/
def oldestWaiting : List Request → Option Request
  | [] => none
  | r :: rest =>
    match r.condition with
    | .answered _ => oldestWaiting rest
    | .taken => none
    | .waiting => if rest.any (fun q => q.condition == .taken) then none else some r

/-- The request the processor may take now (R167, R176). -/
def State.takeable (s : State) : Option Request :=
  if s.trunk.resetting then none else oldestWaiting s.trunk.queue

/-- The parameters of the request the processor may take now, when its request code is `code` (R167, R186). -/
def State.takes (s : State) (code : Byte) : Option (List Byte) :=
  match s.takeable with
  | some r =>
    match r.payload with
    | c :: params => if c = code then some params else none
    | [] => none
  | none => none

end Sys2Proof.Machine
end

