-- ==== Sys2Proof/Machine/Ops.lean ====
section
/-! DEFINITION. The named operations over the state that the meanings share: lanes and tables, counters, attention, the
report queue, verdicts, the pass usage table, answers and the transmitter, and time. -/

namespace Sys2Proof.Machine

/-! ## The day clock as responses show it -/

/-- The day clock in the responses of COUNTERS_READ and STATUS_READ (R143): day state, today, time of day, clock state. -/
def DayClock.dayItem (c : DayClock) : List Byte :=
  item 1 c.dayState.code ++ optItem 1 c.dayState.today (item 1) ++ item 3 c.timeOfDay ++ item 1 (clockCode c.isSet)

/-! ## Lanes, banks -/

/-- What the blocks hold for a lane. -/
def State.lane (s : State) (l : Lane.Index) : Lane := s.lanes[l]

/-- The state with a lane replaced. -/
def State.setLane (s : State) (l : Lane.Index) (x : Lane) : State := { s with lanes := s.lanes.set l x }

/-- The state with a lane changed. -/
def State.modLane (s : State) (l : Lane.Index) (f : Lane → Lane) : State := s.setLane l (f (s.lane l))

/-- Every lane changed in the same way. The list is mapped, which the kernel evaluates. -/
def mapLanes (f : Lane → Lane) (v : Vector Lane 8) : Vector Lane 8 :=
  ⟨(v.toList.map f).toArray, by simp⟩

/-- The banks of a table. -/
def State.banks (s : State) : TableId → Banks
  | .products => s.products
  | .hotList => s.hotList
  | .days => s.days

/-- The state with a table's banks replaced. -/
def State.setBanks (s : State) (t : TableId) (b : Banks) : State :=
  match t with
  | .products => { s with products := b }
  | .hotList => { s with hotList := b }
  | .days => { s with days := b }

/-- An event at every lane, in ascending lane order. -/
def State.eachLane (s : State) (f : Lane.Index → State → State) : State := allLanes.foldl (fun s l => f l s) s

/-! ## Counters (R126 to R128) -/

/-- A saturating daily counter's increase by 1 (R126). -/
def satInc (n : Nat) : Nat := min (n + 1) Config.dailyMax

/-- A wrapping season counter's increase by 1 (R128). -/
def wrapInc (n : Nat) : Nat := (n + 1) % Config.seasonModulus

/-- A change of a lane's counters. -/
def State.count (s : State) (l : Lane.Index) (f : Counts → Counts) : State :=
  s.modLane l (fun x => { x with counts := f x.counts })

/-- A saturating increase of one entry of a bank table (R127). -/
def bumpEntry {n : Nat} (v : Vector Nat n) (i : Nat) : Vector Nat n :=
  if h : i < n then v.set i (satInc v[i]) else v

/-! ## Attention (R173) -/

/-- Raising a cause: the cause set changes by `f`, and QUIET becomes PENDING (R173). -/
def State.raise (s : State) (f : CauseSet → CauseSet) : State :=
  { s with trunk := { s.trunk with
      causes := f s.trunk.causes,
      attention := match s.trunk.attention with | .quiet => .pending | a => a } }

/-! ## The report queue (R178, R180) -/

/-- Appending a usage record (R178, R180): at the tail with the day, time and clock state of the moment while fewer than
256 records are present; otherwise it is withheld and counted. -/
def State.append (s : State) (body : RecordBody) : State :=
  let q := s.reports
  let r : UsageRecord :=
    { day := s.clock.dayState.today, time := s.clock.timeOfDay, isSet := s.clock.isSet, body := body }
  if q.records.length < Config.reportCapacity then
    let s := { s with reports := { q with records := q.records ++ [r], dwell := some (Timer.start q.dwellTime) } }
    if q.records.length + 1 = Config.backlogMark then s.raise (fun c => { c with reportBacklog := true }) else s
  else
    State.raise { s with reports := { q with withheld := satInc q.withheld } }
      (fun c => { c with reportOverflow := true })

/-! ## Verdicts (R47) -/

/-- A verdict handed to a reader context (R47): it becomes the waiting verdict of an ONLINE context, and is discarded by
an OFFLINE one. -/
def ReaderContext.hand (c : ReaderContext) (v : Verdict) : ReaderContext :=
  match c.state with
  | .online => { c with verdict := some v, carried := false }
  | .offline => c

/-- A verdict handed for a lane. -/
def State.handVerdict (s : State) (l : Lane.Index) (v : Verdict) : State :=
  s.modLane l (fun x => { x with reader := x.reader.hand v })

/-! ## The pass usage table (R21 to R27) -/

/-- The record with a serial, in records of ascending serial. -/
def findPass (ps : List PassRecord) (serial : Nat) : Option PassRecord := ps.find? (fun r => r.serial == serial)

/-- A record put at its place in ascending serial order, replacing the record of the same serial (R21, R29). -/
def putPass : List PassRecord → PassRecord → List PassRecord
  | [], r => [r]
  | p :: ps, r => if r.serial < p.serial then r :: p :: ps else if r.serial = p.serial then r :: ps else p :: putPass ps r

/-- The records without the one of a serial (R32). -/
def dropPass (ps : List PassRecord) (serial : Nat) : List PassRecord := ps.filter (fun r => r.serial != serial)

/-- The record of a serial changed; every other record as it was. -/
def changePass (ps : List PassRecord) (serial : Nat) (f : PassRecord → PassRecord) : List PassRecord :=
  ps.map (fun r => if r.serial = serial then f r else r)

/-- The lookup of R21. A lookup of serial 0 gives "absent". -/
def State.lookupPass (s : State) (serial : Nat) : Option PassRecord :=
  if serial = 0 then none else findPass s.passes serial

/-- The record count (R21). -/
def State.passCount (s : State) : Nat := s.passes.length

/-- Set and clear grant lane (R24). -/
def State.setGrantLane (s : State) (serial : Nat) (l : Option Lane.Index) : State :=
  { s with passes := changePass s.passes serial (fun r => { r with grantLane := l }) }

/-- Whether a day lies in a record's window (R20). -/
def PassRecord.inWindow (r : PassRecord) (d : Nat) : Bool := decide (r.firstDay ≤ d ∧ d < r.firstDay + r.window)

/-- A day put into used days of ascending order; a member stays as it is. -/
def addDay : List Nat → Nat → List Nat
  | [], d => [d]
  | e :: es, d => if d < e then d :: e :: es else if d = e then e :: es else e :: addDay es d

/-- The day commit on a record (R25): today joins the used days when it lies in the window, and rides today increases
by 1, stopping at 255. -/
def PassRecord.commit (r : PassRecord) (today : Nat) : PassRecord :=
  { r with
    usedDays := if r.inWindow today then addDay r.usedDays today else r.usedDays,
    ridesToday := min (r.ridesToday + 1) 255 }

/-- The day commit for a serial (R25). -/
def State.dayCommit (s : State) (serial : Nat) : State :=
  match s.clock.dayState.today with
  | none => s
  | some d => { s with passes := changePass s.passes serial (fun r => r.commit d) }

/-- The passage note for a serial (R26), with the time of the passage. -/
def State.passageNote (s : State) (serial : Nat) : State :=
  { s with passes := changePass s.passes serial (fun r => { r with lastPassage := some s.clock.timeOfDay }) }

/-- Whether a record is purged at the opening of day `d` (R35): first day + W - 1 < d. -/
def PassRecord.purgedAt (r : PassRecord) (d : Nat) : Bool := decide (r.firstDay + r.window ≤ d)

/-- The clearing and purge of a day opening (R35). -/
def openPasses (ps : List PassRecord) (d : Nat) : List PassRecord :=
  (ps.filter (fun r => !r.purgedAt d)).map (fun r => { r with ridesToday := 0, lastPassage := none })

/-! ## The transmitter (R171, R172, R173, R182) -/

/-- The beginning of an ATTENTION frame (R172, R173). -/
def State.beginAttention (s : State) : State :=
  { s with trunk := { s.trunk with
      sending := some { source := .attention, kind := 4#8, tag := BitVec.ofNat 8 s.trunk.sendCount,
                        payload := s.trunk.causes.bytes },
      sendCount := (s.trunk.sendCount + 1) % 256, attention := .sent } }

/-- The beginning of an answer's frame: the response of the request at the queue's head, or the oldest BUSY answer
(R166, R168, R171). -/
def State.beginAnswer (s : State) (source : AnswerSource) (rest : List AnswerSource) : State :=
  let t := { s.trunk with ready := rest }
  match source with
  | .response =>
    match s.trunk.queue with
    | { tag := tag, payload := _, condition := .answered response } :: _ =>
      { s with trunk := { t with
          sending := some { source := .answer .response, kind := 2#8, tag := tag, payload := response } } }
    | _ => { s with trunk := t }
  | .busy =>
    match s.trunk.busy with
    | b :: _ =>
      { s with trunk := { t with
          sending := some { source := .answer .busy, kind := 2#8, tag := b.tag,
                            payload := [b.code, BitVec.ofNat 8 Result.busy.code] } } }
    | [] => { s with trunk := t }

/-- The beginning of a batch (R182): the oldest records leave the queue, the header takes the withheld count, and the
dwell timer restarts. -/
def State.beginBatch (s : State) : State :=
  let q := s.reports
  let n := batchSize Config.batchRecords (Config.payloadLimit - 5) q.records
  let left := q.records.drop n
  let payload := item 1 n ++ item 2 q.withheld ++ item 2 left.length ++ (q.records.take n).flatMap UsageRecord.bytes
  { s with
    reports := { q with records := left, withheld := 0, dwell := some (Timer.start q.dwellTime), dwellMark := false },
    trunk := { s.trunk with
      sending := some { source := .batch, kind := 3#8, tag := BitVec.ofNat 8 s.trunk.sendCount, payload := payload },
      sendCount := (s.trunk.sendCount + 1) % 256 } }

/-- The transmitter (R171): when the line is idle and something waits, the next frame begins: the pending ATTENTION,
otherwise the oldest ready answer, otherwise a report batch. Every event ends with it (log entry 9). -/
def State.transmit (s : State) : State :=
  match s.trunk.sending with
  | some _ => s
  | none =>
    match s.trunk.attention with
    | .pending => s.beginAttention
    | _ =>
      match s.trunk.ready with
      | source :: rest => s.beginAnswer source rest
      | [] => if s.reports.calls then s.beginBatch else s

/-! ## Answering requests (R166 to R169) -/

/-- The queue with its first request that is not answered in a new condition. -/
def setOldest (c : Condition) : List Request → List Request
  | [] => []
  | r :: rest =>
    match r.condition with
    | .answered _ => r :: setOldest c rest
    | _ => { r with condition := c } :: rest

/-- The request code of the first request that is not answered, as its response carries it (R186). -/
def oldestCode : List Request → Byte
  | [] => 0#8
  | r :: rest =>
    match r.condition with
    | .answered _ => oldestCode rest
    | _ => answerCode r.payload

/-- Answering the first request that is not answered (R168, R170): its RESPONSE payload is its request code, the result
code and the results, and the response becomes ready to send. -/
def State.answer (s : State) (result : Result) (results : List Byte) : State :=
  let response := oldestCode s.trunk.queue :: BitVec.ofNat 8 result.code :: results
  { s with trunk := { s.trunk with
      queue := setOldest (.answered response) s.trunk.queue, ready := s.trunk.ready ++ [.response] } }

/-- What an owning block makes of a request: it answers it within the event, or accepts it as one that takes time
(R167, R169). -/
inductive Served where
  | answered (s : State) (result : Result) (results : List Byte)
  | begun (s : State)

/-- The request's condition after its owner has served it (R166, R169). -/
def Served.finish : Served → State
  | .answered s result results => s.answer result results
  | .begun s => { s with trunk := { s.trunk with queue := setOldest .taken s.trunk.queue } }

/-- A refusal that changes nothing and carries no results. -/
def Served.refuse (s : State) (result : Result) : Served := .answered s result []

/-- The taking of the oldest waiting request with a request code by its owning block `f`, which is given the request's
parameters (R167). Where the processor can take no such request, the event does not occur (log entry 2). -/
def State.serve (s : State) (code : Byte) (f : List Byte → State → Served) : State :=
  match s.takes code with
  | some params => (f params s).finish.transmit
  | none => s

/-! ## Time (log entry 3) -/

/-- A lane after `ms` milliseconds: every timer of its blocks that runs has run them. -/
def Lane.elapse (ms : Nat) (x : Lane) : Lane :=
  { x with
    waiting := x.waiting.map (fun w => { w with age := w.age + ms }),
    beamA := { x.beamA with running := x.beamA.running.map (· + ms) },
    beamB := { x.beamB with running := x.beamB.running.map (· + ms) },
    loiterTimer := x.loiterTimer.map (Timer.run · ms),
    grant := x.grant.map (fun g => { g with lifetime := g.lifetime.run ms }),
    gate := (match x.gate with | .closing t => .closing (t.run ms) | g => g),
    obstruction := { x.obstruction with running := x.obstruction.running.map (· + ms) },
    rearm := (match x.rearm with | .timing t => .timing (t.run ms) | r => r),
    timer := x.timer.map (fun t => { t with t := t.t + ms }) }

/-- Every running timer `ms` milliseconds on, and nothing else changed. What a timer brings about when it runs out is a
command of its own. -/
def State.advance (s : State) (ms : Nat) : State :=
  { s with
    lanes := mapLanes (Lane.elapse ms) s.lanes,
    bus := { poll := s.bus.poll.map (fun p => { p with elapsed := p.elapsed + ms }),
             sinceRound := s.bus.sinceRound.map (· + ms) },
    pacing := { s.pacing with
      syncLoss := s.pacing.syncLoss.map (· + ms),
      generator := s.pacing.generator.map (Timer.run · ms),
      sinceSync := s.pacing.sinceSync.map (· + ms),
      sinceEdge := s.pacing.sinceEdge.map (· + ms) },
    clock := { s.clock with millisecond := s.clock.millisecond + ms },
    reports := { s.reports with dwell := s.reports.dwell.map (Timer.run · ms) } }

/-- The passing of `ms` milliseconds: a frame that is due on an idle line begins before any time passes (R171), and every
running timer advances. -/
def State.elapse (s : State) (ms : Nat) : State := s.transmit.advance ms

/-- The state with a lane's event applied, when the number names a lane; otherwise the event does not occur (log
entry 2). -/
def State.atLane (s : State) (n : Nat) (f : Lane.Index → State) : State :=
  match laneOf n with
  | some l => f l
  | none => s

end Sys2Proof.Machine
end

