-- ==== Sys2Proof/Machine/Grants.lean ====
section
/-! DEFINITION. The events that several commands bring about at a lane: the derived gate command (R105 to R107), the
admission decision and its two outcomes (R54 to R74), the ends of a grant (R92 to R97), passages (R80 to R91), faults
(R115, R119) and sync events (R111). -/

namespace Sys2Proof.Machine

/-! ## The gate -/

/-- A command issued to the lane's gate (R105). -/
def Lane.issue (x : Lane) (c : GateCommand) : Lane := { x with gate := x.gateAfter c }

/-- The grant made OPEN or WAITING by the derived command, on a lane in AUTO or HOLD_PENDING (R107). -/
def Lane.deriveGrant (x : Lane) (lift : LiftState) : Lane :=
  if x.mode.serving then { x with grant := x.grant.map (fun g => g.derive (x.derivedOpen lift)) } else x

/-- The re-derivation of R107: the grant follows the derived command, and the governing command is issued. -/
def Lane.derive (x : Lane) (lift : LiftState) : Lane := (x.deriveGrant lift).issue (x.governing lift)

/-- The re-derivation of a lane's command (R107). -/
def State.derive (s : State) (l : Lane.Index) : State := s.modLane l (fun x => x.derive s.pacing.lift)

/-! ## The decision (R57 to R68) -/

/-- What admission reads from a tap (R54): serial, product code and first day. -/
structure Tap where
  serial   : Nat
  product  : Nat
  firstDay : Nat
deriving DecidableEq, Repr

/-- The subject of a decision (R62): the record, or a provisional subject. -/
structure Subject where
  record      : PassRecord
  provisional : Bool
deriving DecidableEq, Repr

/-- The outcome of a decision (R57). -/
inductive Decision where
  | grant (subject : Subject) (product : Product)
  | deny (reason : DenialReason)
deriving DecidableEq, Repr

/-- The provisional subject of R62, as the record that R23 creates from it at lane `l`. -/
def provisionalRecord (l : Lane.Index) (tap : Tap) (p : Product) : PassRecord :=
  { serial := tap.serial, product := tap.product, firstDay := tap.firstDay, window := p.window, pricePaid := none,
    usedDays := [], ridesToday := 0, lastPassage := none, refund := none, grantLane := some l, origin := .admitted }

/-- Check 8: the subject (R62). -/
def State.subject (s : State) (l : Lane.Index) (tap : Tap) : Option Subject :=
  match s.lookupPass tap.serial with
  | some r => some { record := r, provisional := false }
  | none =>
    match lookupProduct s.products.active tap.product with
    | some p =>
      if p.admitUnlisted then
        some { record := { provisionalRecord l tap p with grantLane := none }, provisional := true }
      else none
    | none => none

/-- Checks 13 to 17 of R58, for a subject and its product on day `today` (R65 to R68). -/
def State.usageChecks (s : State) (today : Nat) (sub : Subject) (p : Product) : Option DenialReason :=
  let r := sub.record
  if p.cls ≠ .season ∧ today < r.firstDay then some .notYet
  else if p.cls ≠ .season ∧ r.firstDay + r.window ≤ today then some .expired
  else if ¬ today ∈ r.usedDays ∧ p.allowed ≤ r.usedDays.length then some .daysExhausted
  else if p.rideLimit ≠ 0 ∧ p.rideLimit ≤ r.ridesToday then some .rideLimit
  else if (match r.lastPassage with
      | none => false
      | some t => decide (secondsSince t s.clock.timeOfDay < 60 * p.passback)) then some .passback
  else if sub.provisional = true ∧ Config.passCapacity ≤ s.passCount then some .tableFull
  else none

/-- Checks 9 to 17 of R58, for a subject (R63 to R68). -/
def State.subjectChecks (s : State) (l : Lane.Index) (today : Nat) (sub : Subject) : Decision :=
  match lookupProduct s.products.active sub.record.product with
  | none => .deny .unknownProduct
  | some p =>
    if p.lanes &&& laneBit l = 0#8 then .deny .wrongLane
    else if sub.record.refund.isSome then .deny .refunded
    else if sub.record.grantLane.isSome then .deny .inUse
    else
      match s.usageChecks today sub p with
      | some reason => .deny reason
      | none => .grant sub p

/-- Checks 4 to 17 of R58, on day `today` of DAY_OPEN (R60 to R68). -/
def State.dayChecks (s : State) (l : Lane.Index) (today : Nat) (tap : Tap) : Decision :=
  if s.clock.isSet = false then .deny .clockNotSet
  else
    match dayStatus s.days.active today with
    | .unscheduled => .deny .dayUnscheduled
    | .isClosed => .deny .dayClosed
    | _ =>
      if withinHours (openingMinute s.days.active today) (closingMinute s.days.active today) s.clock.timeOfDay = false then
        .deny .outsideHours
      else if listed s.hotList.active tap.serial then .deny .blocked
      else
        match s.subject l tap with
        | none => .deny .unknownPass
        | some sub => s.subjectChecks l today sub

/-- The decision of R58: the first check that fails gives the reason, and a tap that passes every check is granted. R59 and
R115 deny every decision under a fault, while a row of R125 speaks of a grant placed under one; R59 and R115 are followed
(DEDUCED, log entry 29). -/
def State.decision (s : State) (l : Lane.Index) (tap : Tap) : Decision :=
  if (s.lane l).faults.any then .deny .laneFault
  else if (s.lane l).settings.pace = .paced ∧ s.pacing.lift = .stopped then .deny .liftStopped
  else
    match s.clock.dayState with
    | .dayOpen today => s.dayChecks l today tap
    | _ => .deny .dayNotOpen

/-! ## Granting and denying (R69 to R71) -/

/-- A denial (R71): the lane's DENIALS, the bank's count for the reason, the verdict. -/
def State.deny (s : State) (l : Lane.Index) (reason : DenialReason) : State :=
  let s := s.count l (fun c => { c with denials := satInc c.denials })
  let s := { s with denials := bumpEntry s.denials (reason.number - 1) }
  s.handVerdict l (.deny reason)

/-- The grant of R70, created now. -/
def newGrant (s : State) (l : Lane.Index) (sub : Subject) (p : Product) : Grant :=
  let lifetime := (s.lane l).settings.lifetime
  { serial := sub.record.serial, product := sub.record.product, allowance := p.riders, passages := 0, state := .waiting,
    committed := false, created := s.clock.timeOfDay,
    deadline := (s.clock.timeOfDay + lifetime) % Config.daySeconds, lifetime := Timer.start (1000 * lifetime) }

/-- A grant put into the lane's slot; on a FREE lane the pending window takes effect and the lane timer starts (R69,
R108). -/
def Lane.place (x : Lane) (g : Grant) : Lane :=
  match x.settings.pace with
  | .paced => { x with grant := some g }
  | .free =>
    { x with grant := some g, effective := x.settings.pending, timer := some (LaneTimer.start x.settings.pending) }

/-- A grant (R69), in the order of its steps; the gate command is then derived (R107). -/
def State.grantAt (s : State) (l : Lane.Index) (sub : Subject) (p : Product) : State :=
  let g := newGrant s l sub p
  let s :=
    if sub.provisional then
      State.append { s with passes := putPass s.passes { sub.record with grantLane := some l } }
        (.passCreated sub.record.serial sub.record.product sub.record.firstDay)
    else s.setGrantLane sub.record.serial (some l)
  let s := s.modLane l (fun x => x.place g)
  let s := s.count l (fun c => { c with grants := satInc c.grants })
  let s := s.handVerdict l (.grant p.riders)
  s.derive l

/-- A decision with its effects (R57, R61, R69, R71). -/
def State.decideTap (s : State) (l : Lane.Index) (tap : Tap) : State :=
  match s.decision l tap with
  | .grant sub p => s.grantAt l sub p
  | .deny reason =>
    (if reason = .blocked then s.append (.hotHit tap.serial l) else s).deny l reason

/-- An arrival at a lane (R54 to R56). -/
def State.arrive (s : State) (l : Lane.Index) (tap : Tap) : State :=
  match (s.lane l).mode with
  | .auto =>
    match (s.lane l).grant with
    | none => s.decideTap l tap
    | some g =>
      if g.serial = tap.serial then s.handVerdict l .dup
      else
        State.handVerdict
          (s.modLane l (fun x =>
            { x with waiting := some { serial := tap.serial, product := tap.product, firstDay := tap.firstDay,
                                       arrival := s.clock.timeOfDay, age := 0 } })) l .wait
  | .disabled => s
  | _ => s.deny l .laneHeld

/-- The take-up of the lane's waiting credential (R72, R73). -/
def State.takeUp (s : State) (l : Lane.Index) : State :=
  match (s.lane l).waiting with
  | none => s
  | some w =>
    let s := s.modLane l (fun x => { x with waiting := none })
    if Config.staleAge < w.age then s.handVerdict l .retap
    else s.decideTap l { serial := w.serial, product := w.product, firstDay := w.firstDay }

/-! ## The ends of a grant (R92 to R97) -/

/-- The lane with its grant slot emptied: on a FREE lane the timer stops (R94, R108). -/
def Lane.vacate (x : Lane) : Lane :=
  match x.settings.pace with
  | .paced => { x with grant := none }
  | .free => { x with grant := none, timer := none }

/-- The grant's record released and the slot emptied (R94 steps 1 and 2). -/
def State.release (s : State) (l : Lane.Index) (g : Grant) : State :=
  (s.setGrantLane g.serial none).modLane l Lane.vacate

/-- Completion counted and reported (R92). -/
def State.reportCompleted (s : State) (l : Lane.Index) (g : Grant) : State :=
  (s.count l (fun c => { c with completed := satInc c.completed })).append (.grantClosed g.serial l g.passages)

/-- A lapse counted and reported (R93, R96). -/
def State.reportLapsed (s : State) (l : Lane.Index) (g : Grant) : State :=
  (s.count l (fun c => { c with lapsed := satInc c.lapsed })).append (.grantLapsed g.serial l)

/-- The two cases of R93: passages 1 or more complete, passages 0 lapse. -/
def State.reportEnd (s : State) (l : Lane.Index) (g : Grant) : State :=
  if 1 ≤ g.passages then s.reportCompleted l g else s.reportLapsed l g

/-- HOLD_PENDING becomes HELD with held command CLOSE (R102). -/
def LaneMode.endHold : LaneMode → LaneMode
  | .holdPending => .held .closeArm
  | m => m

/-- A HOLD_PENDING lane whose grant has left becomes HELD, with HOLD_ENTERED appended (R102). -/
def State.endHold (s : State) (l : Lane.Index) : State :=
  match (s.lane l).mode with
  | .holdPending => (s.modLane l (fun x => { x with mode := .held .closeArm })).append (.laneEvent l .holdEntered)
  | _ => s

/-- The common end (R94): the record is released, the slot empties, the gate unit is told, and the waiting credential is
taken up. -/
def State.commonEnd (s : State) (l : Lane.Index) (g : Grant) : State :=
  ((((s.release l g).endHold l).derive l).takeUp l)

/-- A DRAINING grant at a SHUT gate completes (R92). -/
def State.settle (s : State) (l : Lane.Index) : State :=
  match (s.lane l).grant with
  | none => s
  | some g =>
    if g.state = .draining ∧ (s.lane l).gate = .shut then (s.reportCompleted l g).commonEnd l g else s

/-- The re-derivation of a lane's command, and the completion that a gate reaching SHUT brings (R106, R107). -/
def State.rederive (s : State) (l : Lane.Index) : State := (s.derive l).settle l

/-! ## Passages (R80, R85 to R91) -/

/-- A counted forward passage on a grant: passages, and DRAINING at the allowance (R85 steps 1 and 5). -/
def Grant.forward (g : Grant) : Grant :=
  { g with
    passages := g.passages + 1,
    state := if g.passages + 1 = g.allowance then .draining else g.state,
    committed := true }

/-- A forward passage counted on a WAITING or OPEN grant (R85 to R87). -/
def State.countedPassage (s : State) (l : Lane.Index) (g : Grant) : State :=
  let s := s.count l (fun c => { c with riders := satInc c.riders, ridersSeason := wrapInc c.ridersSeason })
  let s := { s with riders := bumpEntry s.riders g.product }
  let s := if g.committed then s else s.dayCommit g.serial
  let s := s.passageNote g.serial
  let s := s.modLane l (fun x => { x with grant := some g.forward })
  if g.forward.state = .draining then s.rederive l else s

/-- A forward passage at a lane in AUTO or HOLD_PENDING (R85, R88, R89). -/
def State.forwardPassage (s : State) (l : Lane.Index) : State :=
  match (s.lane l).grant with
  | none =>
    (s.count l (fun c =>
      { c with intrusions := satInc c.intrusions, intrusionsSeason := wrapInc c.intrusionsSeason })).append (.intrusion l)
  | some g =>
    if g.live then s.countedPassage l g
    else (s.count l (fun c => { c with tailgates := satInc c.tailgates })).append (.tailgate l g.serial)

/-- A grant that a reverse passage has lowered; out of DRAINING it goes to WAITING, for the derivation to open (R90). -/
def Grant.back (g : Grant) : Grant :=
  { g with passages := g.passages - 1, state := if g.state = .draining then .waiting else g.state }

/-- A reverse passage at a lane in AUTO or HOLD_PENDING (R90). -/
def State.reversePassage (s : State) (l : Lane.Index) : State :=
  let s := s.count l (fun c => { c with reverse := satInc c.reverse })
  match (s.lane l).grant with
  | none => s
  | some g =>
    if g.passages = 0 then s
    else
      let s := s.modLane l (fun x => { x with grant := some g.back })
      if g.state = .draining then s.rederive l else s

/-- A passage by the lane's mode (R80, R91). -/
def State.passage (s : State) (l : Lane.Index) (d : Direction) : State :=
  match (s.lane l).mode with
  | .held _ => s.count l (fun c => { c with staff := satInc c.staff })
  | .disabled => s
  | _ =>
    match d with
    | .forward => s.forwardPassage l
    | .reverse => s.reversePassage l

/-! ## Faults (R115, R119) -/

/-- The lane with a fault kind set: the gate is RELEASED, and a re-arm timing of the obstruction is given up (R115). -/
def Lane.setFault (x : Lane) (k : FaultKind) : Lane :=
  { x with
    faults := x.faults.add k, gate := .released,
    rearm := match k with | .obstruction => .idle | .stuck => x.rearm }

/-- Setting a fault kind (R115). -/
def State.setFault (s : State) (l : Lane.Index) (k : FaultKind) : State :=
  if (s.lane l).faults.has k then s
  else
    let s := s.modLane l (fun x => x.setFault k)
    let s := s.count l (fun c => { c with faults := satInc c.faults })
    let s := s.append (.laneEvent l (.faultSet k))
    let s := s.raise (fun c => { c with laneFault := c.laneFault ||| laneBit l })
    s.rederive l

/-- The lane with the kinds of `k` taken out of its fault set (R119); the re-arm timing goes with OBSTRUCTION. -/
def Lane.clearFaults (x : Lane) (k : FaultSet) : Lane :=
  { x with faults := x.faults.remove k, rearm := if k.obstruction then .idle else x.rearm }

/-- Clearing the kinds of `k` that are in the lane's fault set (R119). -/
def State.clearFaults (s : State) (l : Lane.Index) (k : FaultSet) : State :=
  let cleared : FaultSet :=
    { obstruction := (s.lane l).faults.obstruction && k.obstruction, stuck := (s.lane l).faults.stuck && k.stuck }
  let s := s.modLane l (fun x => x.clearFaults k)
  let s := cleared.kinds.foldl (fun s kind => s.append (.laneEvent l (.faultCleared kind))) s
  let s := if (s.lane l).faults.any then s else (s.modLane l (fun x => x.issue .closeArm)).settle l
  s.rederive l

/-- Both kinds. -/
def FaultSet.all : FaultSet := { obstruction := true, stuck := true }

/-- OBSTRUCTION alone. -/
def FaultSet.obstructionOnly : FaultSet := { obstruction := true, stuck := false }

/-! ## Sync events and the lift (R111, R113, R114) -/

/-- Steps 1 to 3 of a sync event on a paced lane that is not DISABLED (R111). -/
def Lane.sync (x : Lane) : Lane :=
  { x with
    carry := x.nextCarry, timer := some (LaneTimer.start x.settings.pending), effective := x.settings.pending }

/-- A sync event at one lane (R111): nothing on a FREE lane, step 4 alone on a DISABLED one. -/
def State.syncLane (l : Lane.Index) (s : State) : State :=
  match (s.lane l).settings.pace with
  | .free => s
  | .paced =>
    let s := if (s.lane l).mode = .disabled then s else s.modLane l Lane.sync
    let s := if (s.lane l).rearm = .rearmed then s.clearFaults l .obstructionOnly else s
    if (s.lane l).mode = .disabled then s else s.rederive l

/-- A sync event (R111), at the lanes in ascending order. -/
def State.syncEvent (s : State) : State :=
  ({ s with pacing := { s.pacing with sinceSync := some 0 } }).eachLane State.syncLane

/-- The lift becoming RUNNING again (R114): RESUMED is appended. -/
def State.resumeLift (s : State) : State :=
  State.append { s with pacing := { s.pacing with lift := .running } } (.liftEvent .running)

/-- A lane at the lift's stop (R113): the carry mark clears, and a paced lane's timer stops. -/
def Lane.liftStop (x : Lane) : Lane :=
  { x with carry := false, timer := match x.settings.pace with | .paced => none | .free => x.timer }

/-- The lift stopping at sync loss (R113). -/
def State.stopLift (s : State) : State :=
  let s := { s with pacing := { s.pacing with
    lift := .stopped, syncLoss := none, sinceEdge := none, measured := none } }
  let s := s.eachLane (fun l s => s.modLane l Lane.liftStop)
  let s := s.eachLane (fun l s => if (s.lane l).settings.pace = .paced then s.rederive l else s)
  let s := s.append (.liftEvent .stopped)
  s.raise (fun c => { c with liftStopped := true })

/-! ## Recognizer placement (R77, R82) -/

/-- An input at a start or a lane reset: the debounce is given up and the accepted level set to the raw one (R77,
R115). -/
def Debounce.snap (d : Debounce) : Debounce := { raw := d.raw, accepted := d.raw, running := none }

/-- The loiter timer at a start of it (R81): it does not run on a DISABLED lane. -/
def Lane.startLoiter (x : Lane) : Option Timer :=
  match x.mode with
  | .disabled => none
  | _ => some (Timer.start (1000 * x.settings.loiterTime))

/-- The lane's beams and recognizer placed afresh (R77, R82). -/
def Lane.placeBeams (x : Lane) : Lane :=
  let r := Recognizer.placed x.beamA.raw x.beamB.raw
  { x with
    beamA := x.beamA.snap, beamB := x.beamB.snap, recognizer := r, loiterMark := false,
    loiterTimer := if r = .clear then none else x.startLoiter }

end Sys2Proof.Machine
end

