-- ==== Sys2Proof/Machine/Beams.lean ====
section
/-! DEFINITION. The commands of the beams, the recognizer's loiter timer and the grant's lifetime timer (R77 to R93). -/

namespace Sys2Proof.Machine

/-- A raw change of a debounced input to a level (R77, R115): away from the accepted level it starts a fresh debounce,
back to it the debounce ends without an event. -/
def Debounce.change (d : Debounce) (level : Bool) : Debounce :=
  { d with raw := level, running := if level = d.accepted then none else some 0 }

/-- An accepted change (R77, R115). -/
def Debounce.accept (d : Debounce) : Debounce := { raw := d.raw, accepted := d.raw, running := none }

/-- A beam input of a lane. -/
def Lane.beam (x : Lane) : Beam → Debounce
  | .a => x.beamA
  | .b => x.beamB

/-- The lane with a beam input replaced. -/
def Lane.setBeam (x : Lane) (beam : Beam) (d : Debounce) : Lane :=
  match beam with
  | .a => { x with beamA := d }
  | .b => { x with beamB := d }

/-- BEAM_INPUT_CHANGE (R77). A level the input already has is no change. -/
def execBeamInputChange (lane : Nat) (beam : Beam) (blocked : Bool) (s : State) : Host.Outcome State Fault Refusal :=
  .next (s.atLane lane (fun l =>
    if blocked = ((s.lane l).beam beam).raw then s
    else (s.modLane l (fun x => x.setBeam beam ((x.beam beam).change blocked))).transmit))

/-- The loiter timer and mark after the recognizer has moved (R81): a return to CLEAR stops the timer and clears the
mark, a passage restarts it and clears the mark, leaving CLEAR starts it. -/
def Lane.loiterAfter (x : Lane) (next : Recognizer) (passage : Option Direction) : Lane :=
  if next = .clear then { x with loiterTimer := none, loiterMark := false }
  else if passage.isSome then { x with loiterTimer := x.startLoiter, loiterMark := false }
  else if x.recognizer = .clear then { x with loiterTimer := x.startLoiter }
  else x

/-- An accepted beam change at a lane (R77, R78, R81): the level, the recognizer's move, the loiter timer. -/
def Lane.beamAccepted (x : Lane) (beam : Beam) : Lane :=
  let m := x.recognizer.move beam
  { (x.setBeam beam (x.beam beam).accept).loiterAfter m.1 m.2 with recognizer := m.1 }

/-- An accepted beam change, with the passage it may produce (R80). -/
def State.beamAccepted (s : State) (l : Lane.Index) (beam : Beam) : State :=
  let passage := ((s.lane l).recognizer.move beam).2
  let s := s.modLane l (fun x => x.beamAccepted beam)
  match passage with
  | none => s
  | some d => s.passage l d

/-- BEAM_CHANGE_ACCEPTED (R77, R78, R80): the debounce has run its 50 ms. -/
def execBeamChangeAccepted (lane : Nat) (beam : Beam) (s : State) : Host.Outcome State Fault Refusal :=
  .next (s.atLane lane (fun l =>
    match ((s.lane l).beam beam).running with
    | none => s
    | some ms => ((s.elapse (Config.beamDebounce - ms)).beamAccepted l beam).transmit))

/-- LOITER (R81): the loiter timer has run out; one LOITER unless the mark is set. -/
def execLoiter (lane : Nat) (s : State) : Host.Outcome State Fault Refusal :=
  .next (s.atLane lane (fun l =>
    match (s.lane l).loiterTimer with
    | none => s
    | some t =>
      let s := s.elapse t.left
      let marked := (s.lane l).loiterMark
      let s := s.modLane l (fun x => { x with loiterTimer := none, loiterMark := true })
      State.transmit
        (if marked then s
         else (s.count l (fun c => { c with loiters := satInc c.loiters })).append (.laneEvent l .loiter))))

/-- GRANT_DEADLINE (R93, R94): the lifetime timer has reached the lifetime; the grant completes or lapses, and the
common end follows. -/
def execGrantDeadline (lane : Nat) (s : State) : Host.Outcome State Fault Refusal :=
  .next (s.atLane lane (fun l =>
    match (s.lane l).grant with
    | none => s
    | some g =>
      (((s.elapse g.lifetime.left).reportEnd l g).commonEnd l g).transmit))

end Sys2Proof.Machine
end

