-- ==== Sys2Proof/Machine/Bus.lean ====
section
/-! DEFINITION. The lane bus: rounds, polls, replies and reader contexts (R39 to R49). -/

namespace Sys2Proof.Machine

/-- A poll sent to a lane's head (R41): it carries the waiting verdict and the last tag of the lane's context. -/
def State.sendPoll (s : State) (l : Lane.Index) : State :=
  let c := (s.lane l).reader
  let s := s.modLane l (fun x => { x with reader := { c with carried := c.verdict.isSome } })
  { s with bus := { s.bus with
      poll := some { lane := l, verdict := c.verdict, ackTag := c.lastTag, void := false, elapsed := 0 } } }

/-- The round going on over the lanes still to visit (R40): the next head to be polled is polled, and the lanes before it
are passed by. With none left the round has ended. -/
def State.visit : List Lane.Index → State → State
  | [], s => s
  | l :: rest, s =>
    if (s.lane l).mode = .disabled then State.visit rest s
    else if (s.lane l).reader.state = .online ∨ (s.lane l).reader.offlineSkip = 0 then s.sendPoll l
    else
      State.visit rest
        (s.modLane l (fun x => { x with reader := { x.reader with offlineSkip := x.reader.offlineSkip - 1 } }))

/-- The lanes a round visits after a lane (R40). -/
def lanesAfter (l : Lane.Index) : List Lane.Index := allLanes.drop (l.val + 1)

/-- ROUND_START (R40): 10 ms have passed since the previous round began; a round begins with lane 1. While a poll is
outstanding the event does not occur (log entry 2). -/
def execRoundStart (s : State) : Host.Outcome State Fault Refusal :=
  .next
    (match s.bus.poll with
    | some _ => s
    | none =>
      let s := s.elapse ((s.bus.sinceRound.map (Config.roundTime - ·)).getD 0)
      (State.visit allLanes { s with bus := { s.bus with sinceRound := some 0 } }).transmit)

/-! ## Failed polls and good replies -/

/-- The context after a failed poll (R43 steps 2 to 5). -/
def ReaderContext.fail (c : ReaderContext) : ReaderContext :=
  let n := min (c.failures + 1) 3
  match c.state with
  | .online =>
    if n = 3 then { c with state := .offline, failures := n, offlineSkip := Config.offlineSkip, verdict := none,
                           carried := false }
    else { c with failures := n, carried := false }
  | .offline => { c with failures := n, offlineSkip := Config.offlineSkip, carried := false }

/-- A failed poll of a lane (R43). -/
def State.failPoll (s : State) (l : Lane.Index) : State :=
  let c := (s.lane l).reader
  let s := s.count l (fun k => { k with readErrors := satInc k.readErrors })
  let s := s.modLane l (fun x => { x with reader := c.fail })
  if c.state = .online ∧ c.fail.state = .offline then
    (s.append (.laneEvent l .readerLost)).raise (fun k => { k with readerLost := k.readerLost ||| laneBit l })
  else s

/-- The context after a good reply (R44 steps 1 to 3): `carried` says that the poll carried a verdict. -/
def ReaderContext.answer (c : ReaderContext) (carried : Bool) : ReaderContext :=
  let delivered := carried && c.carried
  { c with
    failures := 0, state := .online,
    offlineSkip := (match c.state with | .online => c.offlineSkip | .offline => 0),
    verdict := if delivered then none else c.verdict, carried := false }

/-- A good CREDENTIAL (R46): a repeat is discarded; a new tag is taken, and the credential is delivered as an arrival. -/
def State.credential (s : State) (l : Lane.Index) (c : Credential) : State :=
  if (s.lane l).reader.lastTag = some c.tag then s
  else
    let s := s.modLane l (fun x =>
      { x with reader := { x.reader with
          lastTag := some c.tag,
          lastCredential := some { serial := c.serial, media := c.media, quality := c.quality,
                                   time := s.clock.timeOfDay } } })
    s.arrive l { serial := c.serial, product := c.product, firstDay := c.firstDay }

/-- A good reply from a lane (R44), in the order of its steps. -/
def State.goodReply (s : State) (p : Poll) (r : Reply) : State :=
  let l := p.lane
  let c := (s.lane l).reader
  let s := s.modLane l (fun x => { x with reader := c.answer p.verdict.isSome })
  let s := if c.state = .offline then s.append (.laneEvent l .readerBack) else s
  match r with
  | .credential k => s.credential l k
  | _ => s

/-- The end of an exchange (R40, R42, R49): the poll is judged, with no effect on the context of a lane disabled
meanwhile, and the next poll of the round begins. -/
def State.judged (s : State) (p : Poll) (r : Option Reply) : State :=
  let s := { s with bus := { s.bus with poll := none } }
  let s :=
    if p.void then s
    else
      match r with
      | some r => s.goodReply p r
      | none => s.failPoll p.lane
  (State.visit (lanesAfter p.lane) s).transmit

/-- The judgement of a reply that ends while a poll is outstanding (R42): within the 3 ms it is judged by its bytes; after
them it belongs to no poll and is ignored, and the poll fails at this command (DEDUCED, log entry 28). -/
def Poll.judge (p : Poll) (bytes : List Byte) : Option Reply :=
  if p.elapsed ≤ Config.replyTimeout then judgeReply p.lane bytes else none

/-- REPLY_RECEIVED (R42). Bytes before the sync byte belong to no reply (log entry 18). With no poll outstanding the reply
is ignored (R42, R51). -/
def execReplyReceived (bytes : List Byte) (s : State) : Host.Outcome State Fault Refusal :=
  .next
    (match s.bus.poll, bytes.dropWhile (· != syncByte) with
    | some p, b :: rest => s.judged p (p.judge (b :: rest))
    | _, _ => s)

/-- POLL_TIMEOUT (R42): the poll's 3 ms have run out, and it fails. -/
def execPollTimeout (s : State) : Host.Outcome State Fault Refusal :=
  .next
    (match s.bus.poll with
    | none => s
    | some p => (s.elapse (Config.replyTimeout - p.elapsed)).judged p none)

end Sys2Proof.Machine
end

