-- ==== Sys2Proof/Machine/Gate.lean ====
section
/-! DEFINITION. The gate drive's requests and inputs: holds, gate commands, faults, lane reset (R100 to R119, R123). -/

namespace Sys2Proof.Machine

/-- A request that carries one lane: BAD_VALUE for a lane outside 1 to 8 (R101, R103, R116, R122, R123). -/
def serveLane (f : Lane.Index → State → Served) (params : List Byte) (s : State) : Served :=
  match params with
  | [lane] =>
    match laneOf lane.toNat with
    | some l => f l s
    | none => .refuse s .badValue
  | _ => .refuse s .badRequest

/-- A lane's mode as a response item. -/
def State.modeItem (s : State) (l : Lane.Index) : List Byte := item 1 (s.lane l).mode.code

/-- A lane with its mode replaced. -/
def Lane.setMode (m : LaneMode) (x : Lane) : Lane := { x with mode := m }

/-! ## Holds -/

/-- An accepted LANE_HOLD on a lane in AUTO (R101, R74). -/
def State.hold (s : State) (l : Lane.Index) : State :=
  match (s.lane l).grant with
  | none =>
    State.rederive ((s.modLane l (Lane.setMode (.held .closeArm))).append (.laneEvent l .holdEntered)) l
  | some _ =>
    let s :=
      match (s.lane l).waiting with
      | none => s
      | some _ => (s.modLane l (fun x => { x with waiting := none })).deny l .laneHeld
    State.rederive (s.modLane l (Lane.setMode .holdPending)) l

/-- LANE_HOLD by the lane's mode (R101). -/
def serveHold (l : Lane.Index) (s : State) : Served :=
  match (s.lane l).mode with
  | .auto => .answered (s.hold l) .ok ((s.hold l).modeItem l)
  | .disabled => .refuse s .laneState
  | _ => .answered s .ok (s.modeItem l)

/-- LANE_HOLD (R101). -/
def execLaneHold (s : State) : Host.Outcome State Fault Refusal := .next (s.serve 48#8 (serveLane serveHold))

/-- An accepted LANE_RELEASE on a lane in HELD (R103): AUTO, HOLD_LEFT, and the gate commanded close. -/
def State.unhold (s : State) (l : Lane.Index) : State :=
  State.rederive
    ((s.modLane l (fun x => (x.setMode .auto).issue .closeArm)).append (.laneEvent l .holdLeft)) l

/-- LANE_RELEASE by the lane's mode (R103). -/
def serveRelease (l : Lane.Index) (s : State) : Served :=
  match (s.lane l).mode with
  | .held _ => .answered (s.unhold l) .ok ((s.unhold l).modeItem l)
  | .holdPending =>
    let s := (s.modLane l (Lane.setMode .auto)).rederive l
    .answered s .ok (s.modeItem l)
  | .auto => .answered s .ok (s.modeItem l)
  | .disabled => .refuse s .laneState

/-- LANE_RELEASE (R103). -/
def execLaneRelease (s : State) : Host.Outcome State Fault Refusal := .next (s.serve 49#8 (serveLane serveRelease))

/-- The held command as a response item (R187). -/
def heldItem (c : Option GateCommand) : List Byte := optItem 1 c (fun c => item 1 c.code)

/-- GATE_COMMAND at the gate unit (R104). -/
def serveGateCommand (params : List Byte) (s : State) : Served :=
  match params with
  | [lane, command] =>
    match laneOf lane.toNat, GateCommand.ofCode command with
    | some l, some c =>
      match (s.lane l).mode with
      | .held _ =>
        let s := (s.modLane l (Lane.setMode (.held c))).rederive l
        .answered s .ok (heldItem (some c) ++ item 1 (s.lane l).gate.code)
      | _ => .refuse s .laneState
    | _, _ => .refuse s .badValue
  | _ => .refuse s .badRequest

/-- GATE_COMMAND (R104). -/
def execGateCommand (s : State) : Host.Outcome State Fault Refusal := .next (s.serve 50#8 serveGateCommand)

/-! ## The arm-closed input and the close limit (R106) -/

/-- The lane at its arm-closed input taking a level: becoming active brings a CLOSING gate to SHUT (R105, R106). -/
def Lane.armInput (x : Lane) (active : Bool) : Lane :=
  { x with
    armClosed := active,
    gate := match x.gate with
      | .closing t => if active then .shut else .closing t
      | g => g }

/-- ARM_CLOSED (R106): a DRAINING grant completes when the gate becomes SHUT (R92). -/
def execArmClosed (lane : Nat) (active : Bool) (s : State) : Host.Outcome State Fault Refusal :=
  .next (s.atLane lane (fun l =>
    if active = (s.lane l).armClosed then s
    else ((s.modLane l (fun x => x.armInput active)).settle l).transmit))

/-- CLOSE_LIMIT_EXPIRY (R106): the close-limit timer has run out while the gate is CLOSING, and STUCK is set. -/
def execCloseLimitExpiry (lane : Nat) (s : State) : Host.Outcome State Fault Refusal :=
  .next (s.atLane lane (fun l =>
    match (s.lane l).gate with
    | .closing t => ((s.elapse t.left).setFault l .stuck).transmit
    | _ => s))

/-! ## The obstruction input and re-arming (R115 to R118) -/

/-- OBSTRUCTION_INPUT_CHANGE (R115). A level the input already has is no change. -/
def execObstructionInputChange (lane : Nat) (active : Bool) (s : State) : Host.Outcome State Fault Refusal :=
  .next (s.atLane lane (fun l =>
    if active = (s.lane l).obstruction.raw then s
    else (s.modLane l (fun x => { x with obstruction := x.obstruction.change active })).transmit))

/-- The re-arm timer started at the lane's re-arm time (R118). -/
def Lane.startRearm (x : Lane) : Lane := { x with rearm := .timing (Timer.start x.settings.rearmTime) }

/-- An accepted obstruction change (R115, R118): active sets OBSTRUCTION, or gives up re-arming when it is set already;
inactive starts the re-arm timer of a set OBSTRUCTION in AUTO_CLEAR. -/
def State.obstructionAccepted (s : State) (l : Lane.Index) : State :=
  let s := s.modLane l (fun x => { x with obstruction := x.obstruction.accept })
  let x := s.lane l
  if x.obstruction.accepted then
    if x.faults.obstruction then s.modLane l (fun x => { x with rearm := .idle }) else s.setFault l .obstruction
  else if x.faults.obstruction = true ∧ x.settings.fault = .autoClear then s.modLane l Lane.startRearm
  else s

/-- OBSTRUCTION_CHANGE_ACCEPTED (R115): the debounce has run its 20 ms. -/
def execObstructionChangeAccepted (lane : Nat) (s : State) : Host.Outcome State Fault Refusal :=
  .next (s.atLane lane (fun l =>
    match (s.lane l).obstruction.running with
    | none => s
    | some ms => ((s.elapse (Config.obstructionDebounce - ms)).obstructionAccepted l).transmit))

/-- The re-arm timer run out (R118): OBSTRUCTION clears on a FREE lane, and is re-armed on a PACED one. -/
def State.rearmExpired (s : State) (l : Lane.Index) : State :=
  match (s.lane l).settings.pace with
  | .free => s.clearFaults l .obstructionOnly
  | .paced => s.modLane l (fun x => { x with rearm := .rearmed })

/-- REARM_TIMER_EXPIRY (R118). -/
def execRearmTimerExpiry (lane : Nat) (s : State) : Host.Outcome State Fault Refusal :=
  .next (s.atLane lane (fun l =>
    match (s.lane l).rearm with
    | .timing t => ((s.elapse t.left).rearmExpired l).transmit
    | _ => s))

/-- A lane's fault set as a response item (R187). -/
def State.faultItem (s : State) (l : Lane.Index) : List Byte := item 1 (s.lane l).faults.code

/-- FAULT_CLEAR at the gate unit (R116). -/
def serveFaultClear (l : Lane.Index) (s : State) : Served :=
  if (s.lane l).faults.any = false then .answered s .ok (s.faultItem l)
  else if (s.lane l).obstruction.accepted then .answered s .laneState (s.faultItem l)
  else .answered (s.clearFaults l .all) .ok ((s.clearFaults l .all).faultItem l)

/-- FAULT_CLEAR (R116). -/
def execFaultClear (s : State) : Host.Outcome State Fault Refusal := .next (s.serve 51#8 (serveLane serveFaultClear))

/-! ## Lane reset (R96, R123) -/

/-- Steps 2 to 5 of a lane reset on the lane (R123), and the beams and recognizer of step 1 (R77, R82). R110 and R123 leave
open whether a period in which t had reached OPEN_AT before the reset still sets the carry mark at the next sync; here it
does, since the timer is kept with the offsets it has reached (DESIGN CHOICE, log entry 22). -/
def Lane.resetGate (x : Lane) : Lane :=
  let y := x.placeBeams
  let y := { y with
    waiting := none,
    mode := (match y.mode with | .held _ => .held .closeArm | m => m),
    faults := { obstruction := false, stuck := false }, rearm := .idle, carry := false,
    obstruction := y.obstruction.snap }
  { y with gate := match y.gate with | .shut => .shut | _ => y.closingGate }

/-- A lane reset (R123), in the order of its steps. -/
def State.resetLane (s : State) (l : Lane.Index) : State :=
  let s :=
    match (s.lane l).grant with
    | none => s
    | some g => (s.reportLapsed l g).release l g
  let s := s.endHold l
  let s := s.modLane l Lane.resetGate
  let s := if (s.lane l).obstruction.accepted then s.setFault l .obstruction else s
  s.rederive l

/-- LANE_RESET at the gate unit (R123). -/
def serveLaneReset (l : Lane.Index) (s : State) : Served :=
  let s := s.resetLane l
  .answered s .ok (s.modeItem l ++ item 1 (s.lane l).gate.code)

/-- LANE_RESET (R123). -/
def execLaneReset (s : State) : Host.Outcome State Fault Refusal := .next (s.serve 55#8 (serveLane serveLaneReset))

end Sys2Proof.Machine
end

