-- ==== Sys2Proof/Machine/Days.lean ====
section
/-! DEFINITION. The count unit's requests and the day clock's commands: COUNTERS_READ, COUNTERS_CLEAR_SEASON, DAY_OPEN
and its completion, DAY_CLOSE, TIME_SET and the second (R130 to R141). -/

namespace Sys2Proof.Machine

/-! ## Counters read and cleared -/


/-- A lane's twelve daily counters in the order of R126, and its two season counters. -/
def Counts.bytes (c : Counts) : List Byte :=
  item 2 c.grants ++ item 2 c.completed ++ item 2 c.lapsed ++ item 2 c.riders ++ item 2 c.reverse ++
    item 2 c.intrusions ++ item 2 c.tailgates ++ item 2 c.denials ++ item 2 c.staff ++ item 2 c.loiters ++
    item 2 c.readErrors ++ item 2 c.faults ++ item 4 c.ridersSeason ++ item 4 c.intrusionsSeason

/-- COUNTERS_READ at the count unit (R130, R143). -/
def serveCountersRead (params : List Byte) (s : State) : Served :=
  match params with
  | [selector] =>
    if selector = 0#8 then
      .answered s .ok
        (s.denials.toList.flatMap (item 2) ++ s.riders.toList.flatMap (item 2) ++ s.clock.dayItem)
    else
      match laneOf selector.toNat with
      | some l => .answered s .ok ((s.lane l).counts.bytes ++ flag (s.lane l).grant.isSome ++ s.clock.dayItem)
      | none => .refuse s .badValue
  | _ => .refuse s .badRequest

/-- COUNTERS_READ (R130). -/
def execCountersRead (s : State) : Host.Outcome State Fault Refusal := .next (s.serve 64#8 serveCountersRead)

/-- The two season counters of a lane as a response gives them (R131). -/
def Counts.seasonItem (c : Counts) : List Byte := item 4 c.ridersSeason ++ item 4 c.intrusionsSeason

/-- The season counters at 0 (R131). -/
def Counts.clearSeason (c : Counts) : Counts := { c with ridersSeason := 0, intrusionsSeason := 0 }

/-- The lanes a COUNTERS_CLEAR_SEASON selector names (R131): ALL is 0 (R187). -/
def selectedLanes (selector : Byte) : Option (List Lane.Index) :=
  if selector = 0#8 then some allLanes else (laneOf selector.toNat).map (fun l => [l])

/-- COUNTERS_CLEAR_SEASON at the count unit (R131): the values are taken, then the counters become 0. -/
def serveCountersClearSeason (params : List Byte) (s : State) : Served :=
  match params with
  | [selector] =>
    match selectedLanes selector with
    | some ls =>
      .answered (ls.foldl (fun s l => s.count l Counts.clearSeason) s) .ok
        (ls.flatMap (fun l => (s.lane l).counts.seasonItem))
    | none => .refuse s .badValue
  | _ => .refuse s .badRequest

/-- COUNTERS_CLEAR_SEASON (R131). -/
def execCountersClearSeason (s : State) : Host.Outcome State Fault Refusal :=
  .next (s.serve 65#8 serveCountersClearSeason)

/-! ## The time of day -/

/-- A time of day as taken (R135, R136): above 86,399 it is clamped. -/
def timeTaken (v : Nat) : Nat := min (Config.daySeconds - 1) v

/-- The clock given a time of day (R135, R136): a fresh second begins, and the clock is SET. -/
def DayClock.setTime (c : DayClock) (t : Nat) : DayClock := { c with timeOfDay := t, millisecond := 0, isSet := true }

/-- TIME_SET at the day clock (R135). -/
def serveTimeSet (params : List Byte) (s : State) : Served :=
  match params with
  | [t2, t1, t0] =>
    let t := timeTaken (ofBe [t2, t1, t0])
    .answered { s with clock := s.clock.setTime t } .ok (item 3 t ++ item 1 (clockCode s.clock.isSet))
  | _ => .refuse s .badRequest

/-- TIME_SET (R135). -/
def execTimeSet (s : State) : Host.Outcome State Fault Refusal := .next (s.serve 68#8 serveTimeSet)

/-- The clock at the end of its second (R133): after 86,399 comes 0. -/
def DayClock.tick (c : DayClock) : DayClock :=
  { c with timeOfDay := (c.timeOfDay + 1) % Config.daySeconds, millisecond := c.millisecond - 1000 }

/-- CLOCK_SECOND (R133): the rest of the second in progress passes, and the time of day advances by 1. -/
def execClockSecond (s : State) : Host.Outcome State Fault Refusal :=
  .next
    (let s := s.elapse (1000 - s.clock.millisecond)
     State.transmit { s with clock := s.clock.tick })

/-! ## Opening a day -/

/-- The daily counters at 0, the season counters as they are (R132, R136). -/
def Counts.clearDaily (c : Counts) : Counts :=
  { Counts.reset with ridersSeason := c.ridersSeason, intrusionsSeason := c.intrusionsSeason }

/-- Whether a DAY_OPEN of day `d` finds the day state it needs, and the former state it then keeps (R136): absent for
NO_DAY. -/
def DayState.opens (d : Nat) : DayState → Option (Option Nat)
  | .noDay => some none
  | .dayClosed d' => if d' < d then some (some d') else none
  | _ => none

/-- The effects of an accepted DAY_OPEN (R136). The walk of R35 prepares a change that is applied at its completion. -/
def State.acceptOpening (s : State) (d t : Nat) (former : Option Nat) : State :=
  { s with
    clock := { s.clock.setTime t with dayState := .opening d t former },
    lanes := mapLanes (fun x => { x with counts := x.counts.clearDaily }) s.lanes,
    denials := Vector.replicate 20 0, riders := Vector.replicate 64 0 }

/-- DAY_OPEN at the day clock (R136). A refusal gives the day state that stands. -/
def serveDayOpen (params : List Byte) (s : State) : Served :=
  match params with
  | [day, t2, t1, t0] =>
    let d := day.toNat
    let stands := item 1 s.clock.dayState.code
    if Config.seasonDays ≤ d then .answered s .badValue stands
    else
      match s.clock.dayState.opens d with
      | none => .answered s .dayOrder stands
      | some former => .begun (s.acceptOpening d (timeTaken (ofBe [t2, t1, t0])) former)
  | _ => .refuse s .badRequest

/-- DAY_OPEN (R136, R169). -/
def execDayOpen (s : State) : Host.Outcome State Fault Refusal := .next (s.serve 66#8 serveDayOpen)

/-- The completion of a day opening (R138, R35). -/
def State.completeOpening (s : State) (d t : Nat) : State :=
  let kept := openPasses s.passes d
  let purged := s.passes.length - kept.length
  let s := { s with passes := kept, clock := { s.clock with dayState := .dayOpen d } }
  let s := s.append (.dayOpened d purged)
  s.answer .ok (item 1 d ++ item 3 t ++ item 2 purged ++ item 2 kept.length)

/-- DAY_OPEN_COMPLETE (R138). With no opening in progress the event does not occur (log entry 2). -/
def execDayOpenComplete (s : State) : Host.Outcome State Fault Refusal :=
  .next
    (match s.clock.dayState with
    | .opening d t _ => (s.completeOpening d t).transmit
    | _ => s)

/-! ## Closing a day -/

/-- The end of a lane's grant at DAY_CLOSE (R95, R139 step 1): it completes or lapses, its record is released, and a
HOLD_PENDING lane becomes HELD. The HOLD_ENTERED record follows the ends of all lanes (R179; log entry 14). -/
def State.closeGrant (l : Lane.Index) (s : State) : State :=
  match (s.lane l).grant with
  | none => s
  | some g => ((s.reportEnd l g).release l g).modLane l (fun x => { x with mode := x.mode.endHold })

/-- A lane after steps 2 and 3 of R139: no waiting credential, a HELD lane's held command CLOSE. -/
def Lane.dayClose (x : Lane) : Lane :=
  { x with waiting := none, mode := match x.mode with | .held _ => .held .closeArm | m => m }

/-- A lane's five counters of a DAY_SUMMARY (R140). -/
def Counts.summary (c : Counts) : SummaryRow :=
  { grants := c.grants, completed := c.completed, lapsed := c.lapsed, riders := c.riders, intrusions := c.intrusions }

/-- The sum of two rows. -/
def SummaryRow.add (a b : SummaryRow) : SummaryRow :=
  { grants := a.grants + b.grants, completed := a.completed + b.completed, lapsed := a.lapsed + b.lapsed,
    riders := a.riders + b.riders, intrusions := a.intrusions + b.intrusions }

/-- The DAY_SUMMARY of day `d` (R140): the lanes 1 to 8 in order, and the bank totals. -/
def State.daySummary (s : State) (d : Nat) : RecordBody :=
  let rows := allLanes.map (fun l => (s.lane l).counts.summary)
  .daySummary d rows
    (rows.foldl SummaryRow.add { grants := 0, completed := 0, lapsed := 0, riders := 0, intrusions := 0 })

/-- Whether the lane's grant, if any, would complete at DAY_CLOSE, or would lapse (R95). -/
def Lane.endsCompleted (x : Lane) : Bool :=
  match x.grant with
  | none => false
  | some g => decide (1 ≤ g.passages)

/-- Whether the lane's grant lapses at DAY_CLOSE (R95). -/
def Lane.endsLapsed (x : Lane) : Bool :=
  match x.grant with
  | none => false
  | some g => g.passages == 0

/-- An accepted DAY_CLOSE of day `d` (R139), in the order of its steps. -/
def State.closeDay (s : State) (d : Nat) : State :=
  let holding := allLanes.filter (fun l => (s.lane l).mode == .holdPending && (s.lane l).grant.isSome)
  let s := s.eachLane State.closeGrant
  let s := holding.foldl (fun s l => s.append (.laneEvent l .holdEntered)) s
  let s := { s with lanes := mapLanes Lane.dayClose s.lanes }
  let s := s.eachLane (fun l s => s.derive l)
  let s := { s with clock := { s.clock with dayState := .dayClosed d } }
  s.append (s.daySummary d)

/-- DAY_CLOSE at the day clock (R139). -/
def serveDayClose (params : List Byte) (s : State) : Served :=
  match params with
  | [] =>
    match s.clock.dayState with
    | .dayOpen d =>
      .answered (s.closeDay d) .ok
        (item 1 d ++ item 1 (allLanes.countP (fun l => (s.lane l).endsCompleted)) ++
          item 1 (allLanes.countP (fun l => (s.lane l).endsLapsed)))
    | _ => .refuse s .dayOrder
  | _ => .refuse s .badRequest

/-- DAY_CLOSE (R139). -/
def execDayClose (s : State) : Host.Outcome State Fault Refusal := .next (s.serve 67#8 serveDayClose)

end Sys2Proof.Machine
end

