-- ==== Sys2Proof/Machine/Pacing.lean ====
section
/-! DEFINITION. Loading windows, the carrier, and lane and bank configuration (R108 to R114, R120, R121). -/

namespace Sys2Proof.Machine

/-! ## Windows -/

/-- The lane timer having reached OPEN_AT (R108, R109). -/
def Lane.openReached (x : Lane) : Lane :=
  { x with timer := x.timer.map (fun t => { t with openReached := true }) }

/-- The lane timer having reached CLOSE_AT (R109). -/
def Lane.closeReached (x : Lane) : Lane :=
  { x with timer := x.timer.map (fun t => { t with closeReached := true }) }

/-- WINDOW_OPEN_AT (R108, R109): t has reached the effective OPEN_AT, and the command is re-derived. -/
def execWindowOpenAt (lane : Nat) (s : State) : Host.Outcome State Fault Refusal :=
  .next (s.atLane lane (fun l =>
    match (s.lane l).timer with
    | none => s
    | some t =>
      if t.openReached then s
      else
        let s := s.elapse ((s.lane l).effective.openAt - t.t)
        ((s.modLane l Lane.openReached).rederive l).transmit))

/-- WINDOW_CLOSE_AT (R109): t has reached the effective CLOSE_AT of a paced lane. A FREE lane does not use CLOSE_AT
(R108), so the event does not occur there. -/
def execWindowCloseAt (lane : Nat) (s : State) : Host.Outcome State Fault Refusal :=
  .next (s.atLane lane (fun l =>
    match (s.lane l).timer, (s.lane l).settings.pace with
    | some t, .paced =>
      if t.closeReached then s
      else
        let s := s.elapse ((s.lane l).effective.closeAt - t.t)
        ((s.modLane l Lane.closeReached).rederive l).transmit
    | _, _ => s))

/-! ## The carrier -/

/-- The measured carrier period at an accepted edge (R112): the time since the edge before it. -/
def Pacing.edge (p : Pacing) : Pacing :=
  { p with
    measured := (match p.sinceEdge with | none => p.measured | some ms => some ms),
    sinceEdge := some 0, syncLoss := some 0 }

/-- Whether an edge is accepted (R112): source EXTERNAL, and no sync event in the 500 ms before it. -/
def Pacing.accepts (p : Pacing) : Bool :=
  p.source == .external &&
    (match p.sinceSync with | none => true | some ms => decide (Config.edgeSpacing ≤ ms))

/-- CARRIER_SYNC_EDGE (R112, R114): an accepted edge resumes a STOPPED lift and is a sync event. -/
def execCarrierSyncEdge (s : State) : Host.Outcome State Fault Refusal :=
  .next
    (if s.pacing.accepts then
      let s := if s.pacing.lift = .stopped then s.resumeLift else s
      (State.syncEvent { s with pacing := s.pacing.edge }).transmit
    else s)

/-- INTERNAL_CARRIER_TICK (R112): the period running has ended, a sync event is produced, and the next period starts. -/
def execInternalCarrierTick (s : State) : Host.Outcome State Fault Refusal :=
  .next
    (match s.pacing.generator with
    | none => s
    | some t =>
      let s := s.elapse t.left
      (State.syncEvent { s with pacing := { s.pacing with
        generator := some (Timer.start s.pacing.internalPeriod) } }).transmit)

/-- SYNC_LOSS (R113): the sync-loss timer has reached its limit, and the lift stops. -/
def execSyncLoss (s : State) : Host.Outcome State Fault Refusal :=
  .next
    (match s.pacing.syncLoss with
    | none => s
    | some ms => ((s.elapse (1000 * s.pacing.syncLossTime - ms)).stopLift).transmit)

/-! ## BANK_CONFIG (R121) -/

/-- The pace source becoming INTERNAL (R114, R121): the sync-loss timer stops, a STOPPED lift resumes, the generator
starts. The measured period is absent after a change of source (R112). -/
def State.toInternal (s : State) : State :=
  let s := if s.pacing.lift = .stopped then s.resumeLift else s
  { s with pacing := { s.pacing with
      source := .internal, syncLoss := none, generator := some (Timer.start s.pacing.internalPeriod), sinceEdge := none,
      measured := none } }

/-- The pace source becoming EXTERNAL (R121): the generator stops, the lift stays RUNNING, the sync-loss timer starts. -/
def State.toExternal (s : State) : State :=
  { s with pacing := { s.pacing with
      source := .external, syncLoss := some 0, generator := none, sinceEdge := none, measured := none } }

/-- A source given by BANK_CONFIG (R121): naming the present source changes nothing. -/
def State.setSource (s : State) (src : PaceSource) : State :=
  if src = s.pacing.source then s
  else
    match src with
    | .internal => s.toInternal
    | .external => s.toExternal

/-- A running sync-loss timer compared with a new limit (R121): one that has already passed it stops the lift. -/
def State.checkSyncLoss (s : State) : State :=
  match s.pacing.syncLoss with
  | some ms => if 1000 * s.pacing.syncLossTime ≤ ms then s.stopLift else s
  | none => s

/-- The three settings as a response gives them (R121, R122). -/
def Pacing.settingsItem (p : Pacing) : List Byte := item 1 p.source.code ++ item 2 p.internalPeriod ++ item 2 p.syncLossTime

/-- BANK_CONFIG at the gate unit (R121). R121 orders the effects of no two settings in one request; here the numbers are
taken first, then the source, and a new sync-loss time is compared last, so that a request that goes to INTERNAL and gives
a period starts the generator with that period, and one that goes to INTERNAL and lowers the sync-loss time below the
running timer stops no lift (DESIGN CHOICE, log entry 26). -/
def serveBankConfig (params : List Byte) (s : State) : Served :=
  match params with
  | [presence, source, p1, p0, t1, t0] =>
    let given (i : Nat) : Bool := bitOf presence.toNat i
    let numbers (src : Option PaceSource) : Served :=
      let s := { s with pacing := { s.pacing with
        internalPeriod := if given 1 then clampTo 1000 30000 (ofBe [p1, p0]) else s.pacing.internalPeriod,
        syncLossTime := if given 2 then clampTo 2 60 (ofBe [t1, t0]) else s.pacing.syncLossTime } }
      let s := match src with | none => s | some src => s.setSource src
      let s := if given 2 then s.checkSyncLoss else s
      .answered s .ok s.pacing.settingsItem
    if given 0 then
      match PaceSource.ofCode source with
      | none => .refuse s .badValue
      | some src => numbers (some src)
    else numbers none
  | _ => .refuse s .badRequest

/-- BANK_CONFIG (R121). -/
def execBankConfig (s : State) : Host.Outcome State Fault Refusal := .next (s.serve 53#8 serveBankConfig)

/-! ## LANE_CONFIG (R120) -/

/-- The named settings of a LANE_CONFIG, each given or left out (R120). -/
structure NamedSettings where
  enable : Option Bool
  pace   : Option PaceMode
  fault  : Option FaultMode
deriving DecidableEq, Repr

/-- A named setting from its presence bit and its byte: none where the byte names nothing allowed (R120). -/
def namedSetting {α : Type} (given : Bool) (decoded : Option α) : Option (Option α) :=
  if given then (decoded.map some) else some none

/-- Whether the lane is enabled. -/
def LaneMode.enabled : LaneMode → Bool
  | .disabled => false
  | _ => true

/-- Whether a request would change enable, pace mode or fault mode to a value other than the present one (R120). -/
def Lane.wouldChange (x : Lane) (n : NamedSettings) : Bool :=
  n.enable.getD x.mode.enabled != x.mode.enabled || n.pace.getD x.settings.pace != x.settings.pace ||
    n.fault.getD x.settings.fault != x.settings.fault

/-- The numeric settings of a LANE_CONFIG, taken and clamped (R120): `given` tells which are given, `value` the value
sent. Settings count from bit 3, OPEN_AT, to bit 8, the re-arm time. -/
def Settings.configured (x : Settings) (given : Nat → Bool) (value : Nat → Nat) : Settings :=
  let pick (i low high old : Nat) : Nat := if given i then clampTo low high (value i) else old
  { x with
    pending := { openAt := pick 3 0 30000 x.pending.openAt, closeAt := pick 4 0 30000 x.pending.closeAt },
    lifetime := pick 5 2 60 x.lifetime, loiterTime := pick 6 2 30 x.loiterTime,
    closeLimit := pick 7 500 5000 x.closeLimit, rearmTime := pick 8 500 10000 x.rearmTime }

/-- A reader context at its lane's disabling (R49). -/
def ReaderContext.disable (c : ReaderContext) : ReaderContext :=
  { c with state := .offline, failures := 0, offlineSkip := 0, verdict := none, carried := false }

/-- The outstanding poll at the disabling of its lane (R49). -/
def Bus.voidPoll (b : Bus) (l : Lane.Index) : Bus :=
  { b with poll := b.poll.map (fun p => if p.lane = l then { p with void := true } else p) }

/-- Disabling a lane (R49, R81, R120). -/
def State.disableLane (s : State) (l : Lane.Index) : State :=
  let wasHeld := (s.lane l).mode.heldCommand.isSome
  let s := s.modLane l (fun x =>
    { x with
      mode := .disabled, reader := x.reader.disable, loiterTimer := none, loiterMark := false, timer := none,
      carry := false })
  let s := { s with bus := s.bus.voidPoll l }
  let s := if wasHeld then s.append (.laneEvent l .holdLeft) else s
  s.rederive l

/-- Enabling a lane (R81, R120): AUTO, and the loiter timer starts when the recognizer is away from CLEAR. -/
def State.enableLane (s : State) (l : Lane.Index) : State :=
  State.rederive
    (s.modLane l (fun x =>
      let x := { x with mode := .auto, carry := false }
      { x with
        timer := (match x.settings.pace with | .paced => none | .free => x.timer),
        loiterTimer := if x.recognizer = .clear then x.loiterTimer else x.startLoiter })) l

/-- The enable setting taken (R120). -/
def State.setEnable (s : State) (l : Lane.Index) (v : Bool) : State :=
  if v = (s.lane l).mode.enabled then s else if v then s.enableLane l else s.disableLane l

/-- A change of pace mode (R120): the timer stops and the carry mark clears. -/
def Lane.repace (x : Lane) (p : PaceMode) : Lane :=
  { x with settings := { x.settings with pace := p }, timer := none, carry := false }

/-- The pace mode taken (R120). From PACED to FREE a re-armed OBSTRUCTION is cleared at the change. -/
def State.setPace (s : State) (l : Lane.Index) (p : PaceMode) : State :=
  if p = (s.lane l).settings.pace then s
  else
    let s := s.modLane l (fun x => x.repace p)
    let s := if p = .free ∧ (s.lane l).rearm = .rearmed then s.clearFaults l .obstructionOnly else s
    s.rederive l

/-- A change of fault mode (R120): to AUTO_CLEAR, the re-arm timer of a set OBSTRUCTION whose input is inactive starts;
to LATCHED, a re-arm timer or re-armed mark is given up. R120 does not say which level of the input is meant; here it is
the accepted one, by which R118 starts the timer (DESIGN CHOICE, log entry 30). -/
def Lane.refault (x : Lane) (f : FaultMode) : Lane :=
  let y := { x with settings := { x.settings with fault := f } }
  match f with
  | .latched => { y with rearm := .idle }
  | .autoClear => if y.faults.obstruction && !y.obstruction.accepted then y.startRearm else y

/-- The fault mode taken (R120). -/
def State.setFaultMode (s : State) (l : Lane.Index) (f : FaultMode) : State :=
  if f = (s.lane l).settings.fault then s else s.modLane l (fun x => x.refault f)

/-- The named settings taken, with the effects of their changes (R120). R120 takes all settings together and orders no two
effects; here enable comes first, then pace mode, then fault mode, so that HOLD_LEFT stands before FAULT_CLEARED (DESIGN
CHOICE, log entry 25). Where PACED to FREE and AUTO_CLEAR to LATCHED come together, which one a re-armed OBSTRUCTION meets
first is free (log entry 13). -/
def State.setNamed (s : State) (l : Lane.Index) (n : NamedSettings) : State :=
  let enable (s : State) : State := match n.enable with | none => s | some v => s.setEnable l v
  let pace (s : State) : State := match n.pace with | none => s | some p => s.setPace l p
  let fault (s : State) : State := match n.fault with | none => s | some f => s.setFaultMode l f
  let x := s.lane l
  if x.rearm = .rearmed ∧ x.settings.pace = .paced ∧ n.pace = some .free ∧ x.settings.fault = .autoClear ∧
      n.fault = some .latched then
    (if Config.rearmedClearsFirst then fault (pace (enable s)) else pace (fault (enable s)))
  else fault (pace (enable s))

/-- Every setting of R120 as a lane has it. -/
def Lane.settingsItem (x : Lane) : List Byte :=
  let t := x.settings
  flag x.mode.enabled ++ item 1 t.pace.code ++ item 1 t.fault.code ++ item 2 t.pending.openAt ++
    item 2 t.pending.closeAt ++ item 2 t.lifetime ++ item 2 t.loiterTime ++ item 2 t.closeLimit ++ item 2 t.rearmTime

/-- A LANE_CONFIG with its settings decoded (R120): refused whole while the lane holds a grant that a changed enable,
pace mode or fault mode would meet; otherwise every given setting is taken. The numbers are taken before the named
settings, so that a timer the request starts runs with the new numbers (DESIGN CHOICE, log entry 25). -/
def State.configureLane (s : State) (l : Lane.Index) (n : NamedSettings) (given : Nat → Bool) (value : Nat → Nat) :
    Served :=
  if (s.lane l).wouldChange n && (s.lane l).grant.isSome then .refuse s .laneState
  else
    let s := s.modLane l (fun x => { x with settings := x.settings.configured given value })
    let s := s.setNamed l n
    .answered s .ok (s.lane l).settingsItem

/-- LANE_CONFIG at the gate unit (R120, R187): lane, presence field of two bytes, three named settings of one byte, six
numeric settings of two. -/
def serveLaneConfig (params : List Byte) (s : State) : Served :=
  match params with
  | lane :: m1 :: m0 :: enable :: pace :: fault :: numbers =>
    if numbers.length ≠ 12 then .refuse s .badRequest
    else
      let given (i : Nat) : Bool := bitOf (ofBe [m1, m0]) i
      let value (i : Nat) : Nat := numberAt numbers (2 * (i - 3)) 2
      match laneOf lane.toNat, namedSetting (given 0) (enableOf enable), namedSetting (given 1) (PaceMode.ofCode pace),
          namedSetting (given 2) (FaultMode.ofCode fault) with
      | some l, some e, some p, some f => s.configureLane l { enable := e, pace := p, fault := f } given value
      | _, _, _, _ => .refuse s .badValue
  | _ => .refuse s .badRequest

/-- LANE_CONFIG (R120). -/
def execLaneConfig (s : State) : Host.Outcome State Fault Refusal := .next (s.serve 52#8 serveLaneConfig)

end Sys2Proof.Machine
end

