-- ==== Sys2Proof/Machine/Passes.lean ====
section
/-! DEFINITION. The pass record store's requests (R28 to R33). -/

namespace Sys2Proof.Machine

/-- The price basis of a record under a product entry (R30, R149). -/
def priceBasis (r : PassRecord) (p : Product) : Nat := r.pricePaid.getD p.price

/-- The refund test of R30 on a REFUNDED record to be stored. -/
def State.refundTest (s : State) (r : PassRecord) (f : Refund) : Bool :=
  match lookupProduct s.products.active r.product with
  | none => false
  | some p =>
    decide (1 ≤ f.amount ∧ p.minimum ≤ f.amount ∧ f.amount % p.step = 0 ∧ f.amount ≤ priceBasis r p ∧
      f.referenceDay ≤ Config.seasonDays)

/-- Check 2 of R28: every field of the form in range and consistent. -/
def State.storable (s : State) (f : StoredForm) : Bool :=
  let r := f.record
  decide (r.serial ≠ 0 ∧ r.firstDay ≤ 207 ∧ (1 ≤ r.window ∧ r.window ≤ 14 ∨ r.window = 208) ∧
      (∀ d ∈ r.usedDays, r.inWindow d = true) ∧ r.pricePaid.getD 0 ≤ 999999 ∧
      r.lastPassage.getD 0 < Config.daySeconds ∧ f.refundedState = f.refundPresent) &&
    (match r.refund with
    | none => true
    | some x => s.refundTest r x)

/-- The record count as a response item. -/
def State.countItem (s : State) : List Byte := item 2 s.passCount

/-- PASS_STORE at the pass record store (R28, R29). -/
def servePassStore (params : List Byte) (s : State) : Served :=
  if params.length ≠ 47 then .refuse s .badRequest
  else
    let f := storedForm params
    if s.storable f = false then .answered s .badValue s.countItem
    else
      let stored := { s with passes := putPass s.passes f.record }
      match s.lookupPass f.record.serial with
      | some r =>
        match r.grantLane with
        | some l => .answered s .passInGrant (s.countItem ++ item 1 (laneNumber l))
        | none => .answered stored .ok (item 1 1 ++ stored.countItem)
      | none =>
        if Config.passCapacity ≤ s.passCount then .answered s .tableFull s.countItem
        else .answered stored .ok (item 1 0 ++ stored.countItem)

/-- PASS_STORE (R28). -/
def execPassStore (s : State) : Host.Outcome State Fault Refusal := .next (s.serve 32#8 servePassStore)

/-- PASS_FETCH at the pass record store (R31). -/
def servePassFetch (params : List Byte) (s : State) : Served :=
  match params with
  | [s4, s3, s2, s1, s0] =>
    match s.lookupPass (ofBe [s4, s3, s2, s1, s0]) with
    | some r => .answered s .ok r.transferForm
    | none => .refuse s .notFound
  | _ => .refuse s .badRequest

/-- PASS_FETCH (R31). -/
def execPassFetch (s : State) : Host.Outcome State Fault Refusal := .next (s.serve 33#8 servePassFetch)

/-- PASS_REMOVE at the pass record store (R32). -/
def servePassRemove (params : List Byte) (s : State) : Served :=
  match params with
  | [s4, s3, s2, s1, s0] =>
    let serial := ofBe [s4, s3, s2, s1, s0]
    match s.lookupPass serial with
    | none => .refuse s .notFound
    | some r =>
      match r.grantLane with
      | some l => .answered s .passInGrant (item 1 (laneNumber l))
      | none =>
        let s := { s with passes := dropPass s.passes serial }
        .answered s .ok (s.countItem ++ r.transferForm)
  | _ => .refuse s .badRequest

/-- PASS_REMOVE (R32). -/
def execPassRemove (s : State) : Host.Outcome State Fault Refusal := .next (s.serve 34#8 servePassRemove)

/-- The records with serials above an after-serial, in ascending order (R33). -/
def State.passesAfter (s : State) (after : Nat) : List PassRecord := s.passes.filter (fun r => decide (after < r.serial))

/-- PASS_SCAN at the pass record store (R33). -/
def servePassScan (params : List Byte) (s : State) : Served :=
  match params with
  | [s4, s3, s2, s1, s0, count] =>
    let n := clampTo 1 8 count.toNat
    let found := s.passesAfter (ofBe [s4, s3, s2, s1, s0])
    .answered s .ok
      (item 1 n ++ (found.take n).flatMap PassRecord.transferForm ++ flag (decide (n < found.length)))
  | _ => .refuse s .badRequest

/-- PASS_SCAN (R33). -/
def execPassScan (s : State) : Host.Outcome State Fault Refusal := .next (s.serve 35#8 servePassScan)

end Sys2Proof.Machine
end

