-- ==== Sys2Proof/Machine/Refunds.lean ====
section
/-! DEFINITION. The refund engine (R144 to R157): the refusals, the seven stages of the computation, quote and commit. -/

namespace Sys2Proof.Machine

/-! ## The stages (R148 to R157) -/

/-- The reference day T (R148): none in NO_DAY. -/
def DayState.referenceDay : DayState → Option Nat
  | .noDay => none
  | .opening d _ _ => some d
  | .dayOpen d => some d
  | .dayClosed d => some (d + 1)

/-- The days of a record's window that are not used (R150). -/
def PassRecord.unusedDays (r : PassRecord) : List Nat :=
  ((List.range r.window).map (r.firstDay + ·)).filter (fun d => !r.usedDays.contains d)

/-- The classes of an unused day (R151). -/
inductive UnusedClass where
  | closed
  | partialDay
  | lapsed
  | future
deriving DecidableEq, Repr

/-- The class of an unused day by its status and by whether it lies before T (R151). -/
def classify (status : DayStatus) (before : Bool) : UnusedClass :=
  match status, before with
  | .isClosed, _ => .closed
  | .isPartial, true => .partialDay
  | _, true => .lapsed
  | _, false => .future

/-- The breakdown of R147. -/
structure Breakdown where
  referenceDay  : Nat
  price         : Nat
  fromRecord    : Bool
  window        : Nat
  allowed       : Nat
  used          : Nat
  closed        : Nat
  partialDays   : Nat
  future        : Nat
  entitlement   : Nat
  creditClosed  : Nat
  creditPartial : Nat
  creditFuture  : Nat
  weight        : Nat
  gross         : Nat
  afterFee      : Nat
  rounded       : Nat
  refund        : Nat
  grantLane     : Option Lane.Index
deriving DecidableEq, Repr

/-- A after both clamps (R149): the entry's A as used, brought into 1 to the record's W. -/
def daysAllowed (r : PassRecord) (p : Product) : Nat := clampTo 1 r.window p.allowed

/-- The computation (R148 to R157) over a record, its product, the operating day table and the reference day. -/
def computeRefund (r : PassRecord) (p : Product) (days : Memory) (t : Nat) : Breakdown :=
  let count (c : UnusedClass) : Nat :=
    r.unusedDays.countP (fun d => classify (dayStatus days d) (decide (d < t)) == c)
  let a := daysAllowed r p
  let kc := count .closed
  let kp := count .partialDay
  let kf := count .future
  let e := a - r.usedDays.length
  let rc := min e kc
  let rp := min (e - rc) kp
  let rf := min (e - rc - rp) kf
  let weight := 100 * rc + p.partialRate * rp + p.futureRate * rf
  let price := priceBasis r p
  let gross := price * weight / (100 * a)
  let n1 := gross - p.fee
  let n2 := n1 / p.step * p.step
  { referenceDay := t, price := price, fromRecord := r.pricePaid.isSome, window := r.window, allowed := a,
    used := r.usedDays.length, closed := kc, partialDays := kp, future := kf, entitlement := e, creditClosed := rc,
    creditPartial := rp, creditFuture := rf, weight := weight, gross := gross, afterFee := n1, rounded := n2,
    refund := if p.minimum ≤ n2 then n2 else 0, grantLane := r.grantLane }

/-- The breakdown as a response gives it (R147, R187). -/
def Breakdown.bytes (b : Breakdown) : List Byte :=
  item 1 b.referenceDay ++ item 3 b.price ++ flag b.fromRecord ++ item 1 b.window ++ item 1 b.allowed ++ item 1 b.used ++
    item 1 b.closed ++ item 1 b.partialDays ++ item 1 b.future ++ item 1 b.entitlement ++ item 1 b.creditClosed ++
    item 1 b.creditPartial ++ item 1 b.creditFuture ++ item 2 b.weight ++ item 3 b.gross ++ item 3 b.afterFee ++
    item 3 b.rounded ++ item 3 b.refund ++ optItem 1 b.grantLane (fun l => item 1 (laneNumber l))

/-! ## The requests -/

/-- What a refund request comes to before the seventh refusal (R146): a refusal with what its response carries, or a
record and its breakdown. -/
inductive Assessment where
  | refused (result : Result) (results : List Byte)
  | computed (record : PassRecord) (breakdown : Breakdown)
deriving DecidableEq, Repr

/-- The first six refusals of R146 in their order, and the computation after them. `commit` tells a REFUND_COMMIT, to
which PASS_IN_GRANT applies. -/
def State.assess (s : State) (commit : Bool) (serial : Nat) : Assessment :=
  match s.lookupPass serial with
  | none => .refused .notFound []
  | some r =>
    match lookupProduct s.products.active r.product with
    | none => .refused .unknownProduct (item 1 r.product)
    | some p =>
      if p.refundable = false ∨ p.cls = .season then .refused .notRefundable (item 1 r.product ++ item 1 p.cls.code)
      else
        match r.refund, (if commit then r.grantLane else none), s.clock.dayState.referenceDay with
        | some f, _, _ => .refused .alreadyRefunded (item 3 f.amount ++ item 1 f.referenceDay)
        | none, some l, _ => .refused .passInGrant (item 1 (laneNumber l))
        | none, none, none => .refused .dayNotSet []
        | none, none, some t => .computed r (computeRefund r p s.days.active t)

/-- REFUND_QUOTE at the refund engine (R144). -/
def serveRefundQuote (params : List Byte) (s : State) : Served :=
  match params with
  | [s4, s3, s2, s1, s0] =>
    match s.assess false (ofBe [s4, s3, s2, s1, s0]) with
    | .refused result results => .answered s result results
    | .computed _ b => .answered s .ok b.bytes
  | _ => .refuse s .badRequest

/-- REFUND_QUOTE (R144). -/
def execRefundQuote (s : State) : Host.Outcome State Fault Refusal := .next (s.serve 80#8 serveRefundQuote)

/-- The refund marking of R27. -/
def State.markRefund (s : State) (serial : Nat) (f : Refund) : State :=
  { s with passes := changePass s.passes serial (fun r => { r with refund := some f }) }

/-- A REFUND_COMMIT that pays (R145): the marking and the REFUND record. -/
def State.commitRefund (s : State) (serial : Nat) (b : Breakdown) : State :=
  (s.markRefund serial { amount := b.refund, referenceDay := b.referenceDay }).append
    (.refund serial b.refund b.referenceDay b.creditClosed b.creditPartial b.creditFuture)

/-- REFUND_COMMIT at the refund engine (R145). -/
def serveRefundCommit (params : List Byte) (s : State) : Served :=
  match params with
  | [s4, s3, s2, s1, s0] =>
    match s.assess true (ofBe [s4, s3, s2, s1, s0]) with
    | .refused result results => .answered s result results
    | .computed r b =>
      if b.refund = 0 then .answered s .nothingToRefund b.bytes
      else .answered (s.commitRefund r.serial b) .ok b.bytes
  | _ => .refuse s .badRequest

/-- REFUND_COMMIT (R145). -/
def execRefundCommit (s : State) : Host.Outcome State Fault Refusal := .next (s.serve 81#8 serveRefundCommit)

end Sys2Proof.Machine
end

