-- ==== Sys2Proof/Machine/Reports.lean ====
section
/-! DEFINITION. REPORT_CONFIG (R184) and the running out of the dwell timer (R181). -/

namespace Sys2Proof.Machine

/-- The two settings of REPORT_CONFIG taken (R184): trigger level bit 0, dwell time bit 1. A running dwell timer keeps
its former time. -/
def ReportQueue.configured (q : ReportQueue) (presence trigger dwell : Nat) : ReportQueue :=
  { q with
    trigger := if bitOf presence 0 then triggerTaken trigger else q.trigger,
    dwellTime := if bitOf presence 1 then clampTo 50 5000 dwell else q.dwellTime }

/-- The results of REPORT_CONFIG (R184). -/
def ReportQueue.configItem (q : ReportQueue) : List Byte :=
  item 2 q.trigger ++ item 2 q.dwellTime ++ flag q.paused ++ item 2 q.records.length ++ item 2 q.withheld ++
    flag q.dwellMark

/-- REPORT_CONFIG at the report queue (R184, R187). -/
def serveReportConfig (params : List Byte) (s : State) : Served :=
  match params with
  | [presence, r1, r0, d1, d0] =>
    let q := s.reports.configured presence.toNat (ofBe [r1, r0]) (ofBe [d1, d0])
    .answered { s with reports := q } .ok q.configItem
  | _ => .refuse s .badRequest

/-- REPORT_CONFIG (R184). -/
def execReportConfig (s : State) : Host.Outcome State Fault Refusal := .next (s.serve 96#8 serveReportConfig)

/-- The queue after its dwell timer has run out (R181). -/
def ReportQueue.dwellExpired (q : ReportQueue) : ReportQueue :=
  { q with dwell := none, dwellMark := q.dwellMark || !q.records.isEmpty }

/-- DWELL_EXPIRY (R181): the dwell timer runs out. -/
def execDwellExpiry (s : State) : Host.Outcome State Fault Refusal :=
  .next
    (match s.reports.dwell with
    | none => s
    | some t =>
      let s := s.elapse t.left
      State.transmit { s with reports := s.reports.dwellExpired })

end Sys2Proof.Machine
end

