-- ==== Sys2Proof/Machine/Start.lean ====
section
/-! DEFINITION. Cold start and warm start, block by block (R18, R19, R36, R38, R51, R53, R97, R124, R132, R141, R177,
R185), and the two commands that bring them about. -/

namespace Sys2Proof.Machine

/-! ## Cold start -/

/-- A lane at cold start (R51, R82, R97, R120, R124, R132): the defaults, placed by the levels its inputs have. -/
def Lane.coldStart (x : Lane) : Lane :=
  let y : Lane :=
    { Lane.reset with beamA := x.beamA, beamB := x.beamB, armClosed := x.armClosed, obstruction := x.obstruction.snap }
  let y := y.placeBeams
  { y with
    faults := { obstruction := x.obstruction.raw, stuck := false },
    gate := if x.obstruction.raw then .released else y.closingGate }

/-- The part after a cold start: every block at its cold-start value, the inputs as they are. The commands that wait
outside the part are not the part's. A round and a second that were in progress are forgotten (DESIGN CHOICE, log entry 31;
DEDUCED, log entry 32). -/
def State.coldStart (s : State) : State :=
  { State.reset with lanes := mapLanes Lane.coldStart s.lanes, pending := s.pending }

/-! ## Warm start -/

/-- A table at warm start (R19): a VERIFIED or STALE shadow is kept, any other becomes EMPTY. -/
def Banks.warmStart (b : Banks) : Banks :=
  match b.shadowState with
  | .verified => b
  | .stale => b
  | _ => { b with shadow := [], shadowSig := none, shadowState := .empty }

/-- A lane at warm start (R51, R53, R77, R97, R115, R124). -/
def Lane.warmStart (x : Lane) : Lane :=
  let mode : LaneMode :=
    match x.mode with
    | .auto => .auto
    | .holdPending => .held .closeArm
    | .held _ => .held .closeArm
    | .disabled => .disabled
  let y : Lane :=
    { x with
      reader := .reset, waiting := none, grant := none, mode := mode, obstruction := x.obstruction.snap,
      faults := { obstruction := x.obstruction.raw, stuck := false }, rearm := .idle, timer := none, carry := false,
      counts := if x.grant.isSome then { x.counts with lapsed := satInc x.counts.lapsed } else x.counts }
  let y := y.placeBeams
  { y with gate := if x.obstruction.raw then .released else y.closingGate }

/-- The bank's pacing at warm start (R112, R113, R124): the settings are kept, the lift starts by the source. No rule says
whether a sync event before the start still bars an edge less than 500 ms after it; here the start forgets it, as the
LANE_STATUS of R122 does (DEDUCED, log entry 23). -/
def Pacing.warmStart (p : Pacing) : Pacing :=
  { p with
    lift := (match p.source with | .external => .stopped | .internal => .running),
    syncLoss := none,
    generator := (match p.source with | .external => none | .internal => some (Timer.start p.internalPeriod)),
    sinceSync := none, sinceEdge := none, measured := none }

/-- The day state at warm start (R141): a day opening in progress is given up for the former state. -/
def DayState.warmStart : DayState → DayState
  | .opening _ _ none => .noDay
  | .opening _ _ (some d) => .dayClosed d
  | d => d

/-- The report queue at warm start (R185). -/
def ReportQueue.warmStart (q : ReportQueue) : ReportQueue :=
  { q with records := [], withheld := 0, paused := false, dwell := none, dwellMark := false }

/-- The trunk interface at warm start (R177). -/
def Trunk.warmStart : Trunk := { Trunk.reset with causes := { CauseSet.empty with warmStart := true } }

/-- The part after a warm start. R40, R51 and R177 do not say whether the round that began before the start still holds the
next one back for its 10 ms; here the start forgets it, and the first round may begin at once (DESIGN CHOICE, log entry 31).
The time of day restarts from 0 with a fresh second (R141; DEDUCED, log entry 32). -/
def State.warmStart (s : State) : State :=
  { s with
    products := s.products.warmStart, hotList := s.hotList.warmStart, days := s.days.warmStart, load := none,
    passes := s.passes.map (fun r => { r with grantLane := none }),
    bus := { poll := none, sinceRound := none }, lanes := mapLanes Lane.warmStart s.lanes, pacing := s.pacing.warmStart,
    clock := { dayState := s.clock.dayState.warmStart, timeOfDay := 0, millisecond := 0, isSet := false },
    reports := s.reports.warmStart, trunk := Trunk.warmStart }

/-! ## The commands -/

/-- COLD_START (R18, R124, R177). -/
def execColdStart (s : State) : Host.Outcome State Fault Refusal := .next s.coldStart.transmit

/-- WARM_START (R177). -/
def execWarmStart (s : State) : Host.Outcome State Fault Refusal := .next s.warmStart.transmit

end Sys2Proof.Machine
end

