-- ==== Sys2Proof/Machine/Status.lean ====
section
/-! DEFINITION. LANE_STATUS (R122): the reader part (R50), the waiting slot (R76), the grant and recognizer parts (R99),
the gate part and the bank part (R122), each in the order its rule names its items. -/

namespace Sys2Proof.Machine

/-- The reader part (R50). -/
def ReaderContext.statusItem (c : ReaderContext) : List Byte :=
  item 1 c.state.code ++ item 1 c.failures ++ optItem 1 c.lastTag (item 1) ++
    optItem 2 c.verdict (fun v => item 1 v.kind ++ item 1 v.value) ++
    optItem 10 c.lastCredential (fun k => item 5 k.serial ++ item 1 k.media.code ++ item 1 k.quality ++ item 3 k.time)

/-- The waiting slot (R76). -/
def waitingItem (w : Option Waiting) : List Byte :=
  optItem 12 w (fun w => item 5 w.serial ++ item 1 w.product ++ item 1 w.firstDay ++ item 3 w.arrival ++ item 2 w.age)

/-- The grant part (R99). -/
def grantItem (g : Option Grant) : List Byte :=
  optItem 18 g (fun g =>
    item 5 g.serial ++ item 1 g.product ++ item 1 g.allowance ++ item 1 g.passages ++ item 1 g.state.code ++
      flag g.committed ++ item 3 g.created ++ item 3 g.deadline ++ item 2 g.lifetime.left)

/-- Whether a beam debounce is in progress at the lane (R99). -/
def Lane.debouncing (x : Lane) : Bool := x.beamA.running.isSome || x.beamB.running.isSome

/-- The recognizer part (R99). -/
def Lane.recognizerItem (x : Lane) : List Byte :=
  item 1 x.recognizer.code ++ flag x.beamA.accepted ++ flag x.beamB.accepted ++ flag x.debouncing ++ flag x.loiterMark

/-- Milliseconds left on the close-limit timer, if it runs (R122). -/
def GateState.limitLeft : GateState → Option Nat
  | .closing t => some t.left
  | _ => none

/-- Milliseconds left on the re-arm timer, if it runs (R122). -/
def Rearm.left : Rearm → Option Nat
  | .timing t => some t.left
  | _ => none

/-- The two offsets of a window, OPEN_AT first (log entry 11). -/
def Window.item (w : Window) : List Byte := Sys2Proof.Machine.item 2 w.openAt ++ Sys2Proof.Machine.item 2 w.closeAt

/-- The gate part (R122). R122 does not say which level of the obstruction input it shows; here it is the accepted one, which
faults and re-arming go by (DESIGN CHOICE, log entry 27). Nor does it order the four offsets: here the effective OPEN_AT and
CLOSE_AT stand before the pending ones (DEDUCED, log entry 11). -/
def Lane.gateItem (x : Lane) : List Byte :=
  item 1 x.mode.code ++ heldItem x.mode.heldCommand ++ item 1 x.gate.code ++ optItem 2 x.gate.limitLeft (item 2) ++
    flag x.armClosed ++ flag x.obstruction.accepted ++ item 1 x.faults.code ++ item 1 x.settings.fault.code ++
    optItem 2 x.rearm.left (item 2) ++ flag (x.rearm == .rearmed) ++ item 1 x.settings.pace.code ++
    optItem 2 (x.timer.map LaneTimer.t) (item 2) ++ flag x.windowActive ++ flag x.carry ++ x.effective.item ++
    x.settings.pending.item ++ x.settingsItem

/-- The bank part (R122). -/
def Pacing.statusItem (p : Pacing) : List Byte :=
  item 1 p.source.code ++ item 1 p.lift.code ++ optItem 4 p.sinceSync (item 4) ++ optItem 2 p.measured (item 2) ++
    item 2 p.internalPeriod ++ item 2 p.syncLossTime

/-- The results of LANE_STATUS (R122). -/
def State.laneStatusResults (s : State) (l : Lane.Index) : List Byte :=
  let x := s.lane l
  x.reader.statusItem ++ waitingItem x.waiting ++ grantItem x.grant ++ x.recognizerItem ++ x.gateItem ++
    s.pacing.statusItem

/-- LANE_STATUS (R122). -/
def execLaneStatus (s : State) : Host.Outcome State Fault Refusal :=
  .next (s.serve 54#8 (serveLane (fun l s => .answered s .ok (s.laneStatusResults l))))

end Sys2Proof.Machine
end

