-- ==== Sys2Proof/Machine/Tables.lean ====
section
/-! DEFINITION. The table store's requests: loads, activation and reads (R6 to R17). -/

namespace Sys2Proof.Machine

/-- A signature as a response item (R187): a presence byte and four bytes. -/
def signatureItem (sig : Option Signature) : List Byte := optItem 4 sig (fun v => be 4 v.toNat)

/-- The shadow entering EMPTY (R6). -/
def Banks.emptied (b : Banks) : Banks := { b with shadow := [], shadowSig := none, shadowState := .empty }

/-- The shadow prepared by LOAD_BEGIN (R8). -/
def Banks.prepared (b : Banks) (m : LoadMode) : Banks :=
  { b with
    shadow := (match m with | .fresh => [] | .patch => b.active), shadowSig := none, shadowState := .loading }

/-- The canonical bytes of every position of a bank, from position 0 upward (R12). -/
def TableId.canonical (t : TableId) (m : Memory) : List Byte := m.readBytes 0 (t.entrySize * t.capacity)

/-- LOAD_BEGIN at the load engine (R8). -/
def serveLoadBegin (params : List Byte) (s : State) : Served :=
  match params with
  | [table, mode, hi, lo, count] =>
    match s.load with
    | some _ => .refuse s .loadOpen
    | none =>
      match tableOf table, LoadMode.ofCode mode with
      | some t, some m =>
        let first := ofBe [hi, lo]
        let n := count.toNat
        if 1 ≤ n ∧ n ≤ 64 ∧ first + 16 * n ≤ t.capacity then
          .answered
            { s.setBanks t ((s.banks t).prepared m) with
              load := some { table := t, mode := m, first := first, count := n, remaining := n, expected := none } }
            .ok (item 1 n)
        else .refuse s .badValue
      | _, _ => .refuse s .badValue
  | _ => .refuse s .badRequest

/-- LOAD_BEGIN (R8). -/
def execLoadBegin (s : State) : Host.Outcome State Fault Refusal := .next (s.serve 16#8 serveLoadBegin)

/-- The accepted LOAD_BLOCK's write (R9): 16 entries at the next position, and blocks remaining lower by 1. -/
def State.writeBlock (s : State) (x : LoadTransaction) (entries : List Byte) : State :=
  let b := s.banks x.table
  let position := x.first + 16 * (x.count - x.remaining)
  { s.setBanks x.table
      { b with
        shadow := b.shadow.writeBytes (x.table.entrySize * position) entries,
        shadowState := if x.remaining = 1 then .loaded else b.shadowState } with
    load := some { x with remaining := x.remaining - 1 } }

/-- LOAD_BLOCK at the load engine (R9). A payload that does not name a table has the wrong table or no table (log entry
11). -/
def serveLoadBlock (params : List Byte) (s : State) : Served :=
  match params with
  | [] => .refuse s .badRequest
  | table :: entries =>
    match tableOf table with
    | none => .refuse s .badValue
    | some t =>
      if entries.length ≠ 16 * t.entrySize then .refuse s .badRequest
      else
        match s.load with
        | none => .refuse s .loadNotOpen
        | some x =>
          if x.table ≠ t then .refuse s .loadNotOpen
          else if x.remaining = 0 then .refuse s .badValue
          else .answered (s.writeBlock x entries) .ok (item 1 (x.remaining - 1))

/-- LOAD_BLOCK (R9). -/
def execLoadBlock (s : State) : Host.Outcome State Fault Refusal := .next (s.serve 17#8 serveLoadBlock)

/-- LOAD_END at the load engine (R10). -/
def serveLoadEnd (params : List Byte) (s : State) : Served :=
  match params with
  | [table, e3, e2, e1, e0] =>
    match tableOf table with
    | none => .refuse s .badValue
    | some t =>
      match s.load with
      | none => .refuse s .loadNotOpen
      | some x =>
        if x.table ≠ t then .refuse s .loadNotOpen
        else if 1 ≤ x.remaining then .answered s .loadIncomplete (item 1 x.remaining)
        else
          .begun
            { s.setBanks t { s.banks t with shadowState := .checking } with
              load := some { x with expected := some (BitVec.ofNat 32 (ofBe [e3, e2, e1, e0])) } }
  | _ => .refuse s .badRequest

/-- LOAD_END (R10, R169). -/
def execLoadEnd (s : State) : Host.Outcome State Fault Refusal := .next (s.serve 18#8 serveLoadEnd)

/-- The completion of the check (R11): the computed value becomes the shadow signature, the transaction closes, and the
LOAD_END is answered. -/
def State.completeCheck (s : State) (x : LoadTransaction) (expected : Signature) : State :=
  let b := s.banks x.table
  let computed := signatureOf (x.table.canonical b.shadow)
  let close (shadowState : ShadowState) : State :=
    { s.setBanks x.table { b with shadowSig := some computed, shadowState := shadowState } with load := none }
  if computed ≠ expected then (close .corrupt).answer .signatureMismatch (signatureItem (some computed))
  else
    match (if x.table = .hotList then firstOutOfOrder b.shadow else none) with
    | some i => (close .corrupt).answer .orderError (signatureItem (some computed) ++ item 2 i)
    | none => (close .verified).answer .ok (signatureItem (some computed))

/-- LOAD_CHECK_COMPLETE (R11). With no check in progress the event does not occur (log entry 2). -/
def execLoadCheckComplete (s : State) : Host.Outcome State Fault Refusal :=
  .next
    (match s.load with
    | none => s
    | some x =>
      match x.expected with
      | none => s
      | some expected => (s.completeCheck x expected).transmit)

/-- LOAD_ABORT at the load engine (R13). -/
def serveLoadAbort (params : List Byte) (s : State) : Served :=
  match params with
  | [] =>
    match s.load with
    | none => .refuse s .loadNotOpen
    | some x =>
      .answered { s.setBanks x.table (s.banks x.table).emptied with load := none } .ok (item 1 x.table.code)
  | _ => .refuse s .badRequest

/-- LOAD_ABORT (R13). -/
def execLoadAbort (s : State) : Host.Outcome State Fault Refusal := .next (s.serve 19#8 serveLoadAbort)

/-- The two banks swapped whole, the shadow STALE (R14). -/
def Banks.swapped (b : Banks) : Banks :=
  { active := b.shadow, activeSig := b.shadowSig, shadow := b.active, shadowSig := b.activeSig, shadowState := .stale }

/-- Whether the open load transaction is for a table (R7). -/
def State.loadOpenFor (s : State) (t : TableId) : Bool :=
  match s.load with
  | none => false
  | some x => x.table == t

/-- Whether a shadow holds something that can be activated (R14). -/
def ShadowState.activatable : ShadowState → Bool
  | .verified => true
  | .stale => true
  | _ => false

/-- TABLE_ACTIVATE at the table store (R14). -/
def serveTableActivate (params : List Byte) (s : State) : Served :=
  match params with
  | [table] =>
    match tableOf table with
    | none => .refuse s .badValue
    | some t =>
      if s.loadOpenFor t then .refuse s .loadOpen
      else if (s.banks t).shadowState.activatable then
        .answered (s.setBanks t (s.banks t).swapped) .ok (signatureItem (s.banks t).shadowSig)
      else .refuse s .notReady
  | _ => .refuse s .badRequest

/-- TABLE_ACTIVATE (R14). -/
def execTableActivate (s : State) : Host.Outcome State Fault Refusal := .next (s.serve 20#8 serveTableActivate)

/-- Blocks remaining of the open load, 0 unless it belongs to the table (R16). -/
def State.remainingFor (s : State) (t : TableId) : Nat :=
  match s.load with
  | none => 0
  | some x => if x.table = t then x.remaining else 0

/-- One table's part of TABLE_INFO (R16). -/
def State.tableInfo (s : State) (t : TableId) : List Byte :=
  let b := s.banks t
  item 1 b.shadowState.code ++ item 1 (s.remainingFor t) ++ signatureItem b.activeSig ++ signatureItem b.shadowSig

/-- TABLE_INFO at the table store (R16). Neither R16 nor R187 orders the three tables; here they stand in the order of their
numbers, products, hot list, days (DEDUCED, log entry 11). -/
def serveTableInfo (params : List Byte) (s : State) : Served :=
  match params with
  | [] =>
    .answered s .ok
      (s.tableInfo .products ++ s.tableInfo .hotList ++ s.tableInfo .days ++
        optItem 5 s.load (fun x => item 1 x.table.code ++ item 1 x.mode.code ++ item 2 x.first ++ item 1 x.count))
  | _ => .refuse s .badRequest

/-- TABLE_INFO (R16). -/
def execTableInfo (s : State) : Host.Outcome State Fault Refusal := .next (s.serve 21#8 serveTableInfo)

/-- TABLE_READ at the table store (R17). -/
def serveTableRead (params : List Byte) (s : State) : Served :=
  match params with
  | [table, bank, block] =>
    match tableOf table with
    | none => .refuse s .badValue
    | some t =>
      if bank.toNat ≤ 1 ∧ block.toNat < t.blocks then
        let m := if bank = 0#8 then (s.banks t).active else (s.banks t).shadow
        .answered s .ok (m.readBytes (t.entrySize * (16 * block.toNat)) (16 * t.entrySize))
      else .refuse s .badValue
  | _ => .refuse s .badRequest

/-- TABLE_READ (R17). -/
def execTableRead (s : State) : Host.Outcome State Fault Refusal := .next (s.serve 22#8 serveTableRead)

end Sys2Proof.Machine
end

