-- ==== Sys2Proof/Machine/Trunk.lean ====
section
/-! DEFINITION. The trunk's commands: frames received (R163 to R166, R183), requests the processor answers itself
(R167, R174 to R176), and the end of a frame sent (R171). -/

namespace Sys2Proof.Machine

/-! ## Frames received -/

/-- A good REQUEST frame (R166): queued at the tail, answered BUSY, or discarded. -/
def State.offerRequest (s : State) (tag : Byte) (payload : List Byte) : State :=
  if s.trunk.queue.length < Config.queueCapacity then
    { s with trunk := { s.trunk with
        queue := s.trunk.queue ++ [{ tag := tag, payload := payload, condition := .waiting }] } }
  else if s.trunk.busy.length < Config.busyCapacity then
    { s with trunk := { s.trunk with
        busy := s.trunk.busy ++ [{ tag := tag, code := answerCode payload }],
        ready := s.trunk.ready ++ [.busy] } }
  else s

/-- A good frame by its kind (R165). -/
def State.goodFrame (s : State) (kind tag : Byte) (payload : List Byte) : State :=
  if kind = 1#8 then s.offerRequest tag payload
  else if kind = 5#8 then { s with reports := { s.reports with paused := true } }
  else if kind = 6#8 then { s with reports := { s.reports with paused := false } }
  else s

/-- The receiving side in a new state. -/
def State.setReceiver (s : State) (r : Receiver) : State := { s with trunk := { s.trunk with receiver := r } }

/-- A byte received (R164): hunting passes everything by but a start byte; an assembled frame is judged as a whole, and
hunting resumes with the next byte. The transmitter goes on at the end of each frame judged (R171). -/
def State.receiveByte (s : State) (b : Byte) : State :=
  match s.trunk.receiver with
  | .hunting => if b = startByte then s.setReceiver (.assembling []) else s
  | .assembling got =>
    match judgeFrame (got ++ [b]) with
    | .incomplete => s.setReceiver (.assembling (got ++ [b]))
    | .discarded => (s.setReceiver .hunting).transmit
    | .good kind tag payload => ((s.setReceiver .hunting).goodFrame kind tag payload).transmit

/-- Bytes received on the trunk, in order (R164). -/
def State.receive (s : State) (bytes : List Byte) : State := bytes.foldl State.receiveByte s

/-- REQUEST_ARRIVAL (R166). -/
def execRequestArrival (bytes : List Byte) (s : State) : Host.Outcome State Fault Refusal := .next (s.receive bytes)

/-- FRAME_DISCARDED (R164). -/
def execFrameDiscarded (bytes : List Byte) (s : State) : Host.Outcome State Fault Refusal := .next (s.receive bytes)

/-- FRAME_SILENCE_TIMEOUT (R164): the silence lasts its 2 ms, and a frame being assembled is discarded. -/
def execFrameSilenceTimeout (bytes : List Byte) (s : State) : Host.Outcome State Fault Refusal :=
  .next (((s.receive bytes).elapse Config.frameSilence).setReceiver .hunting)

/-- UNEXPECTED_FRAME (R165). -/
def execUnexpectedFrame (bytes : List Byte) (s : State) : Host.Outcome State Fault Refusal := .next (s.receive bytes)

/-- PAUSE_REPORTS (R165, R183). -/
def execPauseReports (bytes : List Byte) (s : State) : Host.Outcome State Fault Refusal := .next (s.receive bytes)

/-- RESUME_REPORTS (R165, R183). -/
def execResumeReports (bytes : List Byte) (s : State) : Host.Outcome State Fault Refusal := .next (s.receive bytes)

/-! ## Requests of the trunk interface -/

/-- UNKNOWN_REQUEST (R167 step 1): the request taken holds no request code or an unknown one, and is answered
BAD_REQUEST. -/
def execUnknownRequest (s : State) : Host.Outcome State Fault Refusal :=
  .next
    (match s.takeable with
    | none => s
    | some r =>
      match r.payload with
      | [] => (s.answer .badRequest []).transmit
      | c :: _ => if c ∈ requestCodes then s else (s.answer .badRequest []).transmit)

/-- What IDENT returns (R175). -/
def identity : List Byte :=
  item 1 70 ++ item 2 480 ++ item 1 1 ++ item 2 8 ++ item 2 64 ++ item 2 1024 ++ item 2 208 ++
    item 2 Config.passCapacity ++ item 2 Config.reportCapacity ++ item 2 Config.queueCapacity ++
    item 2 Config.payloadLimit

/-- IDENT (R175). -/
def execIdent (s : State) : Host.Outcome State Fault Refusal :=
  .next (s.serve 1#8 (fun params s =>
    match params with
    | [] => .answered s .ok identity
    | _ => .refuse s .badRequest))

/-- A lane's mode and fault set, as the bank summary gives them (R174). -/
def Lane.summary (x : Lane) : List Byte := item 1 x.mode.code ++ item 1 x.faults.code

/-- The results of STATUS_READ (R143, R174). -/
def State.statusResults (s : State) : List Byte :=
  s.trunk.causes.bytes ++ s.clock.dayItem ++ item 1 s.pacing.lift.code ++ item 1 s.pacing.source.code ++
    allLanes.flatMap (fun l => (s.lane l).summary) ++ item 1 s.trunk.attention.code

/-- The attention cause set emptied and the attention state QUIET (R173, R174). -/
def State.quieten (s : State) : State :=
  { s with trunk := { s.trunk with causes := .empty, attention := .quiet } }

/-- STATUS_READ (R174). -/
def execStatusRead (s : State) : Host.Outcome State Fault Refusal :=
  .next (s.serve 2#8 (fun params s =>
    match params with
    | [] => .answered s.quieten .ok s.statusResults
    | _ => .refuse s .badRequest))

/-- UNIT_RESET (R176): answered OK; no further request is taken. -/
def execUnitReset (s : State) : Host.Outcome State Fault Refusal :=
  .next (s.serve 3#8 (fun params s =>
    match params with
    | [] => .answered { s with trunk := { s.trunk with resetting := true } } .ok []
    | _ => .refuse s .badRequest))

/-! ## Frames sent -/

/-- The RESPONSE payload of an accepted UNIT_RESET. -/
def unitResetResponse : List Byte := [3#8, 0#8]

/-- The end of the frame being sent (R166, R171): an answer leaves its list, and the end of the response to UNIT_RESET
begins a warm start (R176). -/
def State.frameEnded (s : State) (f : OutFrame) : State :=
  let t := { s.trunk with sending := none }
  match f.source with
  | .answer .response =>
    let s := { s with trunk := { t with queue := t.queue.drop 1 } }
    if s.trunk.resetting = true ∧ f.payload = unitResetResponse then s.warmStart else s
  | .answer .busy => { s with trunk := { t with busy := t.busy.drop 1 } }
  | _ => { s with trunk := t }

/-- FRAME_SENT (R171): the frame being sent ends, and the transmitter begins the next. -/
def execFrameSent (s : State) : Host.Outcome State Fault Refusal :=
  .next
    (match s.trunk.sending with
    | none => s
    | some f => (s.frameEnded f).transmit)

end Sys2Proof.Machine
end

