-- ==== Sys2Proof/Machine/Dispatch.lean ====
section
/-! DEFINITION. One arm for each command: a direct call of its meaning. -/

namespace Sys2Proof.Machine

/-- The effect of a command on everything but the queue of commands that wait. -/
def exec (i : Instr) (s : State) : Host.Outcome State Fault Refusal :=
  match i with
  | .coldStart => Sys2Proof.Machine.execColdStart s
  | .warmStart => Sys2Proof.Machine.execWarmStart s
  | .requestArrival bytes => Sys2Proof.Machine.execRequestArrival bytes s
  | .frameDiscarded bytes => Sys2Proof.Machine.execFrameDiscarded bytes s
  | .frameSilenceTimeout bytes => Sys2Proof.Machine.execFrameSilenceTimeout bytes s
  | .unexpectedFrame bytes => Sys2Proof.Machine.execUnexpectedFrame bytes s
  | .pauseReports bytes => Sys2Proof.Machine.execPauseReports bytes s
  | .resumeReports bytes => Sys2Proof.Machine.execResumeReports bytes s
  | .unknownRequest => Sys2Proof.Machine.execUnknownRequest s
  | .ident => Sys2Proof.Machine.execIdent s
  | .statusRead => Sys2Proof.Machine.execStatusRead s
  | .unitReset => Sys2Proof.Machine.execUnitReset s
  | .loadBegin => Sys2Proof.Machine.execLoadBegin s
  | .loadBlock => Sys2Proof.Machine.execLoadBlock s
  | .loadEnd => Sys2Proof.Machine.execLoadEnd s
  | .loadCheckComplete => Sys2Proof.Machine.execLoadCheckComplete s
  | .loadAbort => Sys2Proof.Machine.execLoadAbort s
  | .tableActivate => Sys2Proof.Machine.execTableActivate s
  | .tableInfo => Sys2Proof.Machine.execTableInfo s
  | .tableRead => Sys2Proof.Machine.execTableRead s
  | .passStore => Sys2Proof.Machine.execPassStore s
  | .passFetch => Sys2Proof.Machine.execPassFetch s
  | .passRemove => Sys2Proof.Machine.execPassRemove s
  | .passScan => Sys2Proof.Machine.execPassScan s
  | .laneHold => Sys2Proof.Machine.execLaneHold s
  | .laneRelease => Sys2Proof.Machine.execLaneRelease s
  | .gateCommand => Sys2Proof.Machine.execGateCommand s
  | .faultClear => Sys2Proof.Machine.execFaultClear s
  | .laneConfig => Sys2Proof.Machine.execLaneConfig s
  | .bankConfig => Sys2Proof.Machine.execBankConfig s
  | .laneStatus => Sys2Proof.Machine.execLaneStatus s
  | .laneReset => Sys2Proof.Machine.execLaneReset s
  | .countersRead => Sys2Proof.Machine.execCountersRead s
  | .countersClearSeason => Sys2Proof.Machine.execCountersClearSeason s
  | .dayOpen => Sys2Proof.Machine.execDayOpen s
  | .dayOpenComplete => Sys2Proof.Machine.execDayOpenComplete s
  | .dayClose => Sys2Proof.Machine.execDayClose s
  | .timeSet => Sys2Proof.Machine.execTimeSet s
  | .refundQuote => Sys2Proof.Machine.execRefundQuote s
  | .refundCommit => Sys2Proof.Machine.execRefundCommit s
  | .reportConfig => Sys2Proof.Machine.execReportConfig s
  | .frameSent => Sys2Proof.Machine.execFrameSent s
  | .dwellExpiry => Sys2Proof.Machine.execDwellExpiry s
  | .roundStart => Sys2Proof.Machine.execRoundStart s
  | .replyReceived bytes => Sys2Proof.Machine.execReplyReceived bytes s
  | .pollTimeout => Sys2Proof.Machine.execPollTimeout s
  | .beamInputChange lane beam blocked => Sys2Proof.Machine.execBeamInputChange lane beam blocked s
  | .beamChangeAccepted lane beam => Sys2Proof.Machine.execBeamChangeAccepted lane beam s
  | .loiter lane => Sys2Proof.Machine.execLoiter lane s
  | .grantDeadline lane => Sys2Proof.Machine.execGrantDeadline lane s
  | .armClosed lane active => Sys2Proof.Machine.execArmClosed lane active s
  | .closeLimitExpiry lane => Sys2Proof.Machine.execCloseLimitExpiry lane s
  | .obstructionInputChange lane active => Sys2Proof.Machine.execObstructionInputChange lane active s
  | .obstructionChangeAccepted lane => Sys2Proof.Machine.execObstructionChangeAccepted lane s
  | .rearmTimerExpiry lane => Sys2Proof.Machine.execRearmTimerExpiry lane s
  | .windowOpenAt lane => Sys2Proof.Machine.execWindowOpenAt lane s
  | .windowCloseAt lane => Sys2Proof.Machine.execWindowCloseAt lane s
  | .carrierSyncEdge => Sys2Proof.Machine.execCarrierSyncEdge s
  | .internalCarrierTick => Sys2Proof.Machine.execInternalCarrierTick s
  | .syncLoss => Sys2Proof.Machine.execSyncLoss s
  | .clockSecond => Sys2Proof.Machine.execClockSecond s

end Sys2Proof.Machine
end

