-- ==== Sys2Proof/Safety.lean ====
section
/-! DEFINITION. What the manual promises of every state the part can reach: the invariants that claims are made of. -/

namespace Sys2Proof.Safety

open Sys2Proof.Machine

/-! ## Stored data -/

/-- Both banks of every table are in canonical form (R6). -/
abbrev TablesCanonical (s : State) : Prop :=
  ∀ t ∈ [TableId.products, .hotList, .days], (s.banks t).active.wf = true ∧ (s.banks t).shadow.wf = true

/-- At most one load transaction is open, its table's shadow is LOADING, LOADED or CHECKING, and no other shadow is
(R6, R7). -/
abbrev LoadMatchesShadow (s : State) : Prop :=
  ∀ t ∈ [TableId.products, .hotList, .days],
    (s.banks t).shadowState ∈ [ShadowState.loading, .loaded, .checking] ↔ s.loadOpenFor t = true

/-- The pass usage table holds at most 4,096 records of ascending, non-zero serials, and no waiting credential has serial
0 (R21, R45, R53). -/
abbrev PassesSound (s : State) : Prop :=
  s.passes.Pairwise (fun a b => a.serial < b.serial) ∧ (∀ r ∈ s.passes, 1 ≤ r.serial) ∧
    s.passes.length ≤ Config.passCapacity ∧ ∀ l, ∀ w ∈ (s.lane l).waiting, 1 ≤ w.serial

/-- The queues hold what their rules allow (R166, R178). -/
abbrev QueuesBounded (s : State) : Prop :=
  s.trunk.queue.length ≤ Config.queueCapacity ∧ s.trunk.busy.length ≤ Config.busyCapacity ∧
    s.reports.records.length ≤ Config.reportCapacity ∧ s.reports.withheld ≤ 65535

/-- Whether a request has its response. -/
def isAnswered (r : Request) : Bool :=
  match r.condition with
  | .answered _ => true
  | _ => false

/-- The answered requests stand before the others in the request queue, and every request behind the first of the others
waits (R166, R167). -/
abbrev QueueOrdered (s : State) : Prop :=
  ∀ r ∈ (s.trunk.queue.dropWhile isAnswered).tail, r.condition = .waiting

/-- Whether an answer is the response of a queued request. -/
def isResponse : AnswerSource → Bool
  | .response => true
  | .busy => false

/-- The answer being sent, as a list of at most one. -/
def answerSent (s : State) : List AnswerSource :=
  match s.trunk.sending with
  | some { source := .answer a, .. } => [a]
  | _ => []

/-- Every answered request has its response ready or being sent, and every BUSY answer is ready or being sent (R166,
R171). -/
abbrev AnswersReady (s : State) : Prop :=
  (answerSent s ++ s.trunk.ready).countP isResponse = s.trunk.queue.countP isAnswered ∧
    (answerSent s ++ s.trunk.ready).countP (fun a => !isResponse a) = s.trunk.busy.length

/-- Whether a signature check is in progress (R10, R169). -/
def checking (s : State) : Bool :=
  match s.load with
  | none => false
  | some x => x.expected.isSome

/-- Whether a day opening is in progress (R136, R169). -/
def openingDay (s : State) : Bool :=
  match s.clock.dayState with
  | .opening _ _ _ => true
  | _ => false

/-- The first request of the queue that is not answered is taken exactly while a request that takes time is in progress,
and the two that take time are not in progress together (R169). -/
abbrev TakenInProgress (s : State) : Prop :=
  ((checking s || openingDay s) =
      ((s.trunk.queue.dropWhile isAnswered).head?.map Request.condition == some .taken)) ∧
    (checking s && openingDay s) = false

/-- Every counter is within its range (R126 to R128). -/
abbrev CountsBounded (c : Counts) : Prop :=
  c.grants ≤ 65535 ∧ c.completed ≤ 65535 ∧ c.lapsed ≤ 65535 ∧ c.riders ≤ 65535 ∧ c.reverse ≤ 65535 ∧
    c.intrusions ≤ 65535 ∧ c.tailgates ≤ 65535 ∧ c.denials ≤ 65535 ∧ c.staff ≤ 65535 ∧ c.loiters ≤ 65535 ∧
    c.readErrors ≤ 65535 ∧ c.faults ≤ 65535 ∧ c.ridersSeason < 4294967296 ∧ c.intrusionsSeason < 4294967296

/-- Every counter of the part is within its range (R126 to R128). -/
abbrev CountersBounded (s : State) : Prop :=
  (∀ l, CountsBounded (s.lane l).counts) ∧ (∀ n ∈ s.denials.toList, n ≤ 65535) ∧ ∀ n ∈ s.riders.toList, n ≤ 65535

/-- A day state's days lie in the season, and a day being opened follows the day closed before it (R133, R136). -/
def dayStateSound : DayState → Bool
  | .noDay => true
  | .opening d t former => decide (d ≤ 207 ∧ t < 86400 ∧ ∀ e ∈ former, e < d)
  | .dayOpen d => decide (d ≤ 207)
  | .dayClosed d => decide (d ≤ 207)

/-- The day clock is within its ranges (R133). -/
abbrev ClockSound (c : DayClock) : Prop := c.timeOfDay < 86400 ∧ dayStateSound c.dayState = true

/-! ## Lanes -/

/-- An input's debounce is in progress exactly while its raw level differs from its accepted one (R77, R115). -/
abbrev DebounceSound (d : Debounce) : Prop := d.running.isSome = (d.raw != d.accepted)

/-- The recognizer's state agrees with the accepted beam levels (R78). -/
abbrev RecognizerSound (s : State) : Prop :=
  ∀ l, DebounceSound (s.lane l).beamA ∧ DebounceSound (s.lane l).beamB ∧
    (s.lane l).recognizer.levels = ((s.lane l).beamA.accepted, (s.lane l).beamB.accepted)

/-- A lane with a fault has a RELEASED gate (R115). -/
abbrev FaultsRelease (s : State) : Prop := ∀ l, (s.lane l).faults.any = true → (s.lane l).gate = .released

/-- A lane without a fault has the gate its governing command asks for (R105, R107). -/
abbrev GateFollows (s : State) : Prop :=
  ∀ l, (s.lane l).faults.any = false →
    ((s.lane l).gate = .opened ↔ (s.lane l).governing s.pacing.lift = .openArm) ∧
    ((s.lane l).gate = .released ↔ (s.lane l).governing s.pacing.lift = .freeArm)

/-- A grant is OPEN exactly while the derived command is open (R84, R107). -/
abbrev GrantFollows (s : State) : Prop :=
  ∀ l, ∀ g ∈ (s.lane l).grant, (g.state = .opened ↔ (s.lane l).derivedOpen s.pacing.lift = true)

/-- What the modes say of the grant and waiting slots (R53, R100): HOLD_PENDING has a grant, HELD and DISABLED have none,
and a credential waits only behind a grant in AUTO. -/
abbrev ModesSound (s : State) : Prop :=
  ∀ l, ((s.lane l).mode = .holdPending → (s.lane l).grant.isSome = true) ∧
    ((s.lane l).mode.serving = false → (s.lane l).grant = none) ∧
    ((s.lane l).waiting.isSome = true → (s.lane l).mode = .auto ∧ (s.lane l).grant.isSome = true)

/-- A grant's passages (R84, R85): DRAINING exactly at the allowance. -/
abbrev GrantsSound (s : State) : Prop :=
  ∀ l, ∀ g ∈ (s.lane l).grant, 1 ≤ g.allowance ∧ g.passages ≤ g.allowance ∧
    (g.state = .draining ↔ g.passages = g.allowance) ∧ (1 ≤ g.passages → g.committed = true)

/-- Grants and grant lanes name each other (R24, R70), and a record with a grant lane is not refunded (R159). -/
abbrev GrantsLocked (s : State) : Prop :=
  (∀ l, ∀ g ∈ (s.lane l).grant, ∃ r ∈ s.passes, r.serial = g.serial ∧ r.grantLane = some l) ∧
    ∀ r ∈ s.passes, ∀ l ∈ r.grantLane, (∃ g ∈ (s.lane l).grant, g.serial = r.serial) ∧ r.refund = none

/-- Whether an operating day is open (R134). -/
def dayIsOpen : DayState → Bool
  | .dayOpen _ => true
  | _ => false

/-- Grants stand only in DAY_OPEN (R137, R139). -/
abbrev GrantsInDay (s : State) : Prop :=
  ∀ l, (s.lane l).grant.isSome = true → dayIsOpen s.clock.dayState = true

/-- Lane timers (R108 to R113): none on a FREE lane without a grant, none on a paced lane while the lift is STOPPED, none
on a DISABLED lane. -/
abbrev TimersSound (s : State) : Prop :=
  ∀ l, (s.lane l).timer.isSome = true →
    ((s.lane l).settings.pace = .free → (s.lane l).grant.isSome = true) ∧
    ((s.lane l).settings.pace = .paced → s.pacing.lift = .running) ∧ (s.lane l).mode ≠ .disabled

/-- The carrier's timers (R112, R113): the internal generator runs exactly with source INTERNAL, which keeps the lift
RUNNING, and the sync-loss timer runs exactly while the lift is RUNNING with source EXTERNAL. -/
abbrev PacingSound (p : Pacing) : Prop :=
  (p.generator.isSome = true ↔ p.source = .internal) ∧ (p.source = .internal → p.lift = .running) ∧
    (p.syncLoss.isSome = true ↔ p.source = .external ∧ p.lift = .running)

/-- The grant balance of a lane (R129), while none of its three counters has saturated. -/
abbrev Balanced (x : Lane) : Prop :=
  x.counts.grants < 65535 ∧ x.counts.completed < 65535 ∧ x.counts.lapsed < 65535 →
    x.counts.grants = x.counts.completed + x.counts.lapsed + (if x.grant.isSome then 1 else 0)

/-- A bank's signature is that of its contents, or the bank is the empty one of cold start without a signature (R6). -/
abbrev BankVouched (t : TableId) (m : Memory) (sig : Option Signature) : Prop :=
  (m = [] ∧ sig = none) ∨ sig = some (signatureOf (m.readBytes 0 (t.entrySize * t.capacity)))

/-- Every active bank is vouched for, and so is every shadow bank that an activation would take (R6, R11, R14). -/
abbrev BanksVouched (s : State) : Prop :=
  ∀ t ∈ [TableId.products, .hotList, .days],
    BankVouched t (s.banks t).active (s.banks t).activeSig ∧
    ((s.banks t).shadowState ∈ [ShadowState.verified, .stale] →
      BankVouched t (s.banks t).shadow (s.banks t).shadowSig)

/-- A well-formed hot list (R3): non-zero serials strictly ascending from position 0, empty positions after them. -/
abbrev HotListOrdered (m : Memory) : Prop :=
  ∀ i, i < 1023 → hotSerial m (i + 1) ≠ 0 → hotSerial m i ≠ 0 ∧ hotSerial m i < hotSerial m (i + 1)

/-- The active hot list is well formed, and so is a shadow that an activation would take (R3, R11, R14). -/
abbrev HotListsOrdered (s : State) : Prop :=
  HotListOrdered s.hotList.active ∧
    (s.hotList.shadowState ∈ [ShadowState.verified, .stale] → HotListOrdered s.hotList.shadow)

/-- Re-arm timing (R118): it belongs to a set OBSTRUCTION in AUTO_CLEAR whose input is inactive. -/
abbrev RearmSound (s : State) : Prop :=
  ∀ l, (s.lane l).rearm ≠ .idle → (s.lane l).faults.obstruction = true ∧ (s.lane l).settings.fault = .autoClear ∧
    (s.lane l).obstruction.accepted = false

/-- The loiter mark and timer stand only away from CLEAR, and not on a DISABLED lane (R81). -/
abbrev LoiterSound (s : State) : Prop :=
  ∀ l, ((s.lane l).loiterTimer.isSome = true ∨ (s.lane l).loiterMark = true) →
    (s.lane l).recognizer ≠ .clear ∧ (s.lane l).mode ≠ .disabled

/-- The attention state is QUIET exactly while the cause set is empty (R173). -/
abbrev AttentionSound (s : State) : Prop := s.trunk.attention = .quiet ↔ s.trunk.causes = CauseSet.empty

/-- The idle line leaves nothing that could be sent: with no frame being sent, no attention is pending, no answer is
ready and no batch is called for (R171). -/
abbrev LineBusyOrNothing (s : State) : Prop :=
  s.trunk.sending = none → s.trunk.attention ≠ .pending ∧ s.trunk.ready = [] ∧ s.reports.calls = false

/-! ## The invariants as claims name them -/

/-- The request side of the trunk (R166 to R171). -/
abbrev TrunkSound (s : State) : Prop :=
  QueuesBounded s ∧ QueueOrdered s ∧ AnswersReady s ∧ TakenInProgress s

/-- Passes in use (R24, R53, R70, R100, R137). -/
abbrev PassesInUse (s : State) : Prop := PassesSound s ∧ ModesSound s ∧ GrantsInDay s ∧ GrantsLocked s

/-- The accounts of grants (R129). -/
abbrev AccountsSound (s : State) : Prop := GrantsInDay s ∧ ∀ l, Balanced (s.lane l)

/-- Gates, grants and windows (R84, R105 to R115). -/
abbrev GatesSound (s : State) : Prop :=
  FaultsRelease s ∧ GateFollows s ∧ GrantFollows s ∧ ModesSound s ∧ TimersSound s ∧ PacingSound s.pacing

/-- What a grant and its waiting credential promise (R53, R84, R85, R100). -/
abbrev GrantSlotsSound (s : State) : Prop := ModesSound s ∧ GrantsSound s

/-! ## Words that several claims share -/

/-- A command whose outcome is a state with an answer given in it, followed by the transmitter (R168, R171). -/
abbrev Answers (c : Instr) (s t : State) (result : Result) (results : List Byte) : Prop :=
  exec c s = .next (t.answer result results).transmit

/-- The bytes of response items given as rows, each a width in bytes and a value (R187). -/
def fields (rows : List (Nat × Nat)) : List Byte := rows.flatMap (fun r => item r.1 r.2)

/-- The rows of an item that may be absent (R187): a presence byte and the item, or zero at the item's width. -/
def optRows (width : Nat) : Option (List (Nat × Nat)) → List (Nat × Nat)
  | none => [(1, 0), (width, 0)]
  | some rows => (1, 1) :: rows

/-- A condition as a response shows it (R187): 1 when it holds. -/
def oneBit (b : Bool) : Nat := if b then 1 else 0

/-- A signature as a response shows it (R187). -/
def signatureRows (sig : Option Signature) : List (Nat × Nat) := optRows 4 (sig.map (fun v => [(4, v.toNat)]))

/-- The day clock as a response shows it (R143, R187): day state, today, time of day, clock state. -/
def dayRows (c : DayClock) : List (Nat × Nat) :=
  [(1, match c.dayState with | .noDay => 0 | .opening _ _ _ => 1 | .dayOpen _ => 2 | .dayClosed _ => 3)] ++
    optRows 1 (c.dayState.today.map (fun d => [(1, d)])) ++ [(3, c.timeOfDay), (1, oneBit c.isSet)]

/-- A lane mode's code (R187). -/
def modeCode : LaneMode → Nat
  | .auto => 0
  | .holdPending => 1
  | .held _ => 2
  | .disabled => 3

/-- A lane's settings as a response shows them (R120, R187). -/
def settingRows (x : Lane) : List (Nat × Nat) :=
  [(1, if x.mode = .disabled then 0 else 1), (1, match x.settings.pace with | .free => 0 | .paced => 1),
    (1, match x.settings.fault with | .latched => 0 | .autoClear => 1), (2, x.settings.pending.openAt),
    (2, x.settings.pending.closeAt), (2, x.settings.lifetime), (2, x.settings.loiterTime), (2, x.settings.closeLimit),
    (2, x.settings.rearmTime)]

/-! ## The clearing of faults, written out from R119 -/

/-- The lane after the kinds of `k` have been cleared (R119), before a DRAINING grant completes: they leave its fault set,
OBSTRUCTION takes its re-arm timing along, and a grant that is not DRAINING is OPEN or WAITING by its window, the lift and
the faults left. Over an empty fault set the close that is issued and the governing command after it move the gate: a held
command of OPEN reopens it and one of FREE releases it, an OPEN grant has it open, and it closes otherwise. -/
def clearedLane (lift : LiftState) (x : Lane) (k : FaultSet) : Lane :=
  let left : FaultSet :=
    { obstruction := x.faults.obstruction && !k.obstruction, stuck := x.faults.stuck && !k.stuck }
  let faultless := left = { obstruction := false, stuck := false }
  let live := x.grant.any (fun g => decide (g.state ≠ .draining))
  let opens := faultless ∧ x.windowActive = true ∧ (x.settings.pace = .free ∨ lift = .running)
  let close : GateState := match x.gate with
    | .shut => .shut
    | .closing t => .closing t
    | _ => if x.armClosed then .shut else .closing { elapsed := 0, limit := x.settings.closeLimit }
  { x with
    faults := left, rearm := if k.obstruction then .idle else x.rearm,
    grant := x.grant.map (fun g =>
      if g.state = .draining then g else { g with state := if opens then .opened else .waiting }),
    gate := if faultless then
        (match x.mode with
          | .held .openArm => .opened
          | .held .freeArm => .released
          | .held .closeArm => close
          | .disabled => close
          | _ => if live = true ∧ opens then .opened else close)
      else x.gate }

/-- The state after the kinds of `k` have been cleared at a lane (R119): the lane as above, one FAULT_CLEARED for each kind
that was set, and the completion of a DRAINING grant whose gate has reached SHUT (R92). -/
def faultsCleared (s : State) (l : Lane.Index) (k : FaultSet) : State :=
  let x := s.lane l
  let records : List RecordBody :=
    (if x.faults.obstruction && k.obstruction then [.laneEvent l (.faultCleared .obstruction)] else []) ++
    (if x.faults.stuck && k.stuck then [.laneEvent l (.faultCleared .stuck)] else [])
  State.settle (records.foldl State.append (s.setLane l (clearedLane s.pacing.lift x k))) l

/-! ## Sync events and the lift's stop, written out from R111 and R113 -/

/-- A paced lane that is not DISABLED after steps 1 to 3 of R111: the carry mark of R110, the lane timer at 0, the pending
window in effect. -/
def syncedLane (x : Lane) : Lane :=
  { x with
    carry := (match x.timer with
      | none => false
      | some k => k.openReached && decide (x.effective.openAt ≠ x.effective.closeAt)),
    timer := some { t := 0, openReached := x.settings.pending.openAt == 0, closeReached := x.settings.pending.closeAt == 0 },
    effective := x.settings.pending }

/-- A sync event (R111), lane after lane: nothing on a FREE lane; on a DISABLED one step 4 alone, which clears a re-armed
OBSTRUCTION as R119 says (`State.clearFaults`, of which the statement FaultsCleared says what it leaves); on every other one
the five steps. -/
def synced (u : State) : State :=
  allLanes.foldl (fun v l =>
    if (u.lane l).settings.pace = .free then v
    else
      let enabled := (u.lane l).mode ≠ .disabled
      let v := if enabled then v.setLane l (syncedLane (v.lane l)) else v
      let v := if (v.lane l).rearm = .rearmed then v.clearFaults l { obstruction := true, stuck := false } else v
      if enabled then v.rederive l else v) { u with pacing := { u.pacing with sinceSync := some 0 } }

/-- The lift's stop (R113): every carry mark clears, every paced lane's timer stops and its command is re-derived, STOPPED
is appended and LIFT_STOPPED raised. -/
def liftStopped (u : State) : State :=
  State.raise
    (State.append
      (allLanes.foldl (fun v l => if (u.lane l).settings.pace = .paced then v.rederive l else v)
        { u with
          pacing := { u.pacing with lift := .stopped, syncLoss := none, sinceEdge := none, measured := none },
          lanes := u.lanes.map (fun x => { x with
            carry := false, timer := match x.settings.pace with | .paced => none | .free => x.timer }) })
      (.liftEvent .stopped))
    (fun k => { k with liftStopped := true })

/-! ## Requests -/

/-- The requests whose form is checked before their owner sees them: the command, the request code (R186) and the number
of parameter bytes of the form (R187). -/
def requestForms : List (Instr × Byte × Nat) :=
  [(.ident, 1#8, 0), (.statusRead, 2#8, 0), (.unitReset, 3#8, 0), (.loadBegin, 16#8, 5), (.loadEnd, 18#8, 5),
    (.loadAbort, 19#8, 0), (.tableActivate, 20#8, 1), (.tableInfo, 21#8, 0), (.tableRead, 22#8, 3), (.passFetch, 33#8, 5),
    (.passRemove, 34#8, 5), (.passScan, 35#8, 6), (.laneHold, 48#8, 1), (.laneRelease, 49#8, 1)] ++
  [(.gateCommand, 50#8, 2), (.faultClear, 51#8, 1), (.laneConfig, 52#8, 18), (.bankConfig, 53#8, 6),
    (.laneStatus, 54#8, 1), (.laneReset, 55#8, 1), (.countersRead, 64#8, 1), (.countersClearSeason, 65#8, 1),
    (.dayOpen, 66#8, 4), (.dayClose, 67#8, 0), (.timeSet, 68#8, 3), (.refundQuote, 80#8, 5), (.refundCommit, 81#8, 5),
    (.reportConfig, 96#8, 5)]

/-- The requests that carry one lane and refuse a number that is no lane's, with their request codes (R101, R103, R116,
R122, R123). -/
def laneRequests : List (Instr × Byte) :=
  [(.laneHold, 48#8), (.laneRelease, 49#8), (.faultClear, 51#8), (.laneStatus, 54#8), (.laneReset, 55#8)]

/-- The table of R58: each reason, and whether its check fails, in the order of the steps. A check that needs the day,
the subject or the product fails only where the checks before it have found one. -/
def admissionChecks (s : State) (l : Lane.Index) (tap : Tap) : List (DenialReason × Bool) :=
  let x := s.lane l
  let day := match s.clock.dayState with | .dayOpen d => some d | _ => none
  let d := day.getD 0
  let status := dayStatus s.days.active d
  let record := s.lookupPass tap.serial
  let offered := (lookupProduct s.products.active tap.product).filter Product.admitUnlisted
  let subject := match record with
    | some r => some r
    | none => offered.map (fun p => { provisionalRecord l tap p with grantLane := none })
  let product := subject.bind (fun r => lookupProduct s.products.active r.product)
  let test (f : PassRecord → Product → Bool) : Bool :=
    match subject, product with
    | some r, some p => f r p
    | _, _ => false
  [(.laneFault, x.faults.any), (.liftStopped, x.settings.pace == .paced && s.pacing.lift == .stopped),
    (.dayNotOpen, day.isNone), (.clockNotSet, !s.clock.isSet), (.dayUnscheduled, status == .unscheduled),
    (.dayClosed, status == .isClosed),
    (.outsideHours,
      !withinHours (openingMinute s.days.active d) (closingMinute s.days.active d) s.clock.timeOfDay),
    (.blocked, listed s.hotList.active tap.serial), (.unknownPass, subject.isNone), (.unknownProduct, product.isNone)] ++
  [(.wrongLane, test (fun _ p => !p.lanes.getLsbD l.val)), (.refunded, test (fun r _ => r.refund.isSome)),
    (.inUse, test (fun r _ => r.grantLane.isSome)),
    (.notYet, test (fun r p => p.cls != .season && decide (d < r.firstDay))),
    (.expired, test (fun r p => p.cls != .season && decide (r.firstDay + r.window < d + 1))),
    (.daysExhausted, test (fun r p => !r.usedDays.contains d && decide (p.allowed ≤ r.usedDays.length))),
    (.rideLimit, test (fun r p => p.rideLimit != 0 && decide (p.rideLimit ≤ r.ridesToday))),
    (.passback, test (fun r p => r.lastPassage.any (fun t =>
      decide ((s.clock.timeOfDay + 86400 - t) % 86400 < p.passback * 60)))),
    (.tableFull, record.isNone && decide (4096 ≤ s.passes.length))]

end Sys2Proof.Safety
end

