-- ==== Sys2Proof/WellFormed.lean ====
section
/-! DEFINITION. Which commands are well formed: a lane operand is a lane number (R100 counts the lanes 1 to 8), and the
bytes a frame command carries are those of the frame its row names (R163 to R166, R183, R186). Every command has a
meaning, well formed or not (log entries 2 and 8). -/

namespace Sys2Proof

/-- Whether a number is a lane's. -/
def laneWf (n : Nat) : Bool := decide (1 ≤ n ∧ n ≤ 8)

/-- The kind of the good frame that bytes are exactly, from the start byte to the check (R164, R186). -/
def goodKind (bytes : List Byte) : Option Byte :=
  match bytes with
  | b :: got =>
    if b = Machine.startByte then
      match Machine.judgeFrame got with
      | .good kind _ _ => some kind
      | _ => none
    else none
  | [] => none

/-- Whether bytes are a frame that is discarded at their last byte (R164). -/
def discardedWf (bytes : List Byte) : Bool :=
  match bytes with
  | b :: got =>
    b == Machine.startByte && Machine.judgeFrame got.dropLast == .incomplete && Machine.judgeFrame got == .discarded
  | [] => false

/-- Whether bytes are the beginning of a frame, not yet complete (R164). -/
def beganWf (bytes : List Byte) : Bool :=
  match bytes with
  | b :: got => b == Machine.startByte && Machine.judgeFrame got == .incomplete
  | [] => false

/-- Whether a frame kind is one the receiver acts on: REQUEST, PAUSE_REPORTS or RESUME_REPORTS (R165). -/
def expectedKind (k : Byte) : Bool := k == 1#8 || k == 5#8 || k == 6#8

/-- Whether bytes are a good frame of a kind the server has no reason to send (R165). -/
def unexpectedWf (bytes : List Byte) : Bool :=
  match goodKind bytes with
  | some k => !expectedKind k
  | none => false

/-- The well-formedness of a command. -/
def Instr.wf : Instr → Bool
  | .coldStart => true
  | .warmStart => true
  | .requestArrival bytes => goodKind bytes == some 1#8
  | .frameDiscarded bytes => discardedWf bytes
  | .frameSilenceTimeout bytes => beganWf bytes
  | .unexpectedFrame bytes => unexpectedWf bytes
  | .pauseReports bytes => goodKind bytes == some 5#8
  | .resumeReports bytes => goodKind bytes == some 6#8
  | .unknownRequest => true
  | .ident => true
  | .statusRead => true
  | .unitReset => true
  | .loadBegin => true
  | .loadBlock => true
  | .loadEnd => true
  | .loadCheckComplete => true
  | .loadAbort => true
  | .tableActivate => true
  | .tableInfo => true
  | .tableRead => true
  | .passStore => true
  | .passFetch => true
  | .passRemove => true
  | .passScan => true
  | .laneHold => true
  | .laneRelease => true
  | .gateCommand => true
  | .faultClear => true
  | .laneConfig => true
  | .bankConfig => true
  | .laneStatus => true
  | .laneReset => true
  | .countersRead => true
  | .countersClearSeason => true
  | .dayOpen => true
  | .dayOpenComplete => true
  | .dayClose => true
  | .timeSet => true
  | .refundQuote => true
  | .refundCommit => true
  | .reportConfig => true
  | .frameSent => true
  | .dwellExpiry => true
  | .roundStart => true
  | .replyReceived bytes => bytes.head? == some Machine.syncByte
  | .pollTimeout => true
  | .beamInputChange lane _ _ => laneWf lane
  | .beamChangeAccepted lane _ => laneWf lane
  | .loiter lane => laneWf lane
  | .grantDeadline lane => laneWf lane
  | .armClosed lane _ => laneWf lane
  | .closeLimitExpiry lane => laneWf lane
  | .obstructionInputChange lane _ => laneWf lane
  | .obstructionChangeAccepted lane => laneWf lane
  | .rearmTimerExpiry lane => laneWf lane
  | .windowOpenAt lane => laneWf lane
  | .windowCloseAt lane => laneWf lane
  | .carrierSyncEdge => true
  | .internalCarrierTick => true
  | .syncLoss => true
  | .clockSecond => true

end Sys2Proof
end

