-- ==== Sys2Proof/Certificates/Slice0/Obligations.lean ====
section
/-! DEFINITION. The statements for the provers. Each docstring names the rules it rests on. A statement whose hypothesis is
`s.takes code = some params` is about the taking of the oldest waiting request, when it carries that request code and those
parameters (R167); `Answers c s t result results` says that command `c` in state `s` ends in `t` with the request
answered and the transmitter gone on (R168, R171). -/

open Sys2Proof Sys2Proof.Machine Sys2Proof.Safety

/-! ## Steps -/

/-- A step takes the command at the front of the queue and executes it with the queue's rest. On an empty queue one
millisecond passes, before which a frame that is due begins (R171): that time passes so is the model's choice, log entry
3. -/
def Obligations.StepTakesTheFrontCommand : Prop :=
  (∀ (c : Instr) (rest : List Instr) (s : State), s.pending = c :: rest → step s = exec c { s with pending := rest }) ∧
    ∀ s : State, s.pending = [] → step s = .next (s.elapse 1)

/-- No command stops the part, and none touches the queue of commands that wait. That no command faults is the manual's
(no rule of it stops the part); that a command whose event cannot occur changes nothing is the model's choice, log entry
2. -/
def Obligations.CommandsCompleteAndLeaveTheQueue : Prop :=
  ∀ (c : Instr) (s : State), ∃ t, exec c s = .next t ∧ t.pending = s.pending

/-! ## Starts -/

/-- What COLD_START leaves: empty tables, an empty pass usage table, no counts, no day, the default settings, every lane
in AUTO with an empty slot, its inputs' accepted levels set from the raw ones, its recognizer placed by them with the
loiter timer started away from CLEAR, its effective window the default and its gate closing, and the ATTENTION with
COLD_START begun (R18, R38, R51, R53, R77, R82, R97, R115, R120, R121, R124, R132, R141, R171, R177, R185). That an earlier
round holds the first one back no longer, and that a fresh second begins, are the model's readings, log entries 31 and
32. -/
def Obligations.ColdStartForgets : Prop :=
  ∀ s : State, ∃ t, exec .coldStart s = .next t ∧
    (∀ k ∈ [TableId.products, .hotList, .days],
      t.banks k = { active := [], activeSig := none, shadow := [], shadowSig := none, shadowState := .empty }) ∧
    t.load = none ∧ t.passes = [] ∧ t.bus = { poll := none, sinceRound := none } ∧
    t.pacing = { source := .external, lift := .stopped, internalPeriod := 8000, syncLossTime := 10, syncLoss := none,
                 generator := none, sinceSync := none, sinceEdge := none, measured := none } ∧
    t.clock = { dayState := .noDay, timeOfDay := 0, millisecond := 0, isSet := false } ∧
    t.denials = Vector.replicate 20 0 ∧ t.riders = Vector.replicate 64 0 ∧
    t.reports = { records := [], withheld := 0, paused := false, trigger := 8, dwellTime := 500, dwell := none,
                  dwellMark := false } ∧
    t.trunk = { receiver := .hunting, queue := [], busy := [], ready := [],
                sending := some { source := .attention, kind := 4#8, tag := 0#8, payload := [1#8, 0#8, 0#8] },
                sendCount := 1, causes := { CauseSet.empty with coldStart := true }, attention := .sent,
                resetting := false } ∧
    ∀ l, (t.lane l).mode = .auto ∧ (t.lane l).grant = none ∧ (t.lane l).waiting = none ∧
      (t.lane l).reader = ReaderContext.reset ∧ (t.lane l).settings = Settings.reset ∧
      (t.lane l).counts = Counts.reset ∧ (t.lane l).timer = none ∧ (t.lane l).carry = false ∧
      (t.lane l).rearm = .idle ∧ (t.lane l).loiterMark = false ∧
      (t.lane l).loiterTimer = (if (s.lane l).beamA.raw || (s.lane l).beamB.raw
        then some { elapsed := 0, limit := 8000 } else none) ∧
      (t.lane l).effective = { openAt := 0, closeAt := 4000 } ∧ (t.lane l).armClosed = (s.lane l).armClosed ∧
      (t.lane l).obstruction =
        { raw := (s.lane l).obstruction.raw, accepted := (s.lane l).obstruction.raw, running := none } ∧
      (t.lane l).beamA = { raw := (s.lane l).beamA.raw, accepted := (s.lane l).beamA.raw, running := none } ∧
      (t.lane l).beamB = { raw := (s.lane l).beamB.raw, accepted := (s.lane l).beamB.raw, running := none } ∧
      (t.lane l).recognizer = Recognizer.placed (s.lane l).beamA.raw (s.lane l).beamB.raw ∧
      (t.lane l).faults = { obstruction := (s.lane l).obstruction.raw, stuck := false } ∧
      (t.lane l).gate = (if (s.lane l).obstruction.raw then .released
        else if (s.lane l).armClosed then .shut else .closing { elapsed := 0, limit := 1500 })

/-- What WARM_START keeps and gives up: active banks and VERIFIED or STALE shadows, pass records but for their grant
lanes, settings, effective windows and counters, with one LAPSED for each grant discarded; the slots, verdicts, timers,
report queue and requests are gone, the inputs' accepted levels are set from the raw ones and the recognizers placed, the
internal generator starts with source INTERNAL, the clock is NOT_SET, a day opening is given up, and the ATTENTION with
WARM_START is begun (R19, R36, R38, R51, R53, R77, R82, R97, R112, R115, R124, R132, R141, R171, R177, R185). That the
last sync event is forgotten is the model's choice, log entry 23; that an earlier round holds the first one back no longer,
and that a fresh second begins, are its readings, log entries 31 and 32. -/
def Obligations.WarmStartKeeps : Prop :=
  ∀ s : State, ∃ t, exec .warmStart s = .next t ∧
    (∀ k ∈ [TableId.products, .hotList, .days],
      (t.banks k).active = (s.banks k).active ∧ (t.banks k).activeSig = (s.banks k).activeSig ∧
      (((s.banks k).shadowState = .verified ∨ (s.banks k).shadowState = .stale) → t.banks k = s.banks k) ∧
      (¬((s.banks k).shadowState = .verified ∨ (s.banks k).shadowState = .stale) →
        (t.banks k).shadow = [] ∧ (t.banks k).shadowSig = none ∧ (t.banks k).shadowState = .empty)) ∧
    t.load = none ∧ t.passes = s.passes.map (fun r => { r with grantLane := none }) ∧
    t.bus = { poll := none, sinceRound := none } ∧
    t.pacing = { source := s.pacing.source, internalPeriod := s.pacing.internalPeriod,
                 syncLossTime := s.pacing.syncLossTime,
                 lift := (match s.pacing.source with | .external => .stopped | .internal => .running),
                 generator := (match s.pacing.source with
                   | .external => none
                   | .internal => some { elapsed := 0, limit := s.pacing.internalPeriod }),
                 syncLoss := none, sinceSync := none, sinceEdge := none, measured := none } ∧
    t.clock.millisecond = 0 ∧
    t.clock.timeOfDay = 0 ∧ t.clock.isSet = false ∧
    t.clock.dayState = (match s.clock.dayState with
      | .opening _ _ none => .noDay
      | .opening _ _ (some d) => .dayClosed d
      | d => d) ∧
    t.denials = s.denials ∧ t.riders = s.riders ∧
    t.reports = { s.reports with records := [], withheld := 0, paused := false, dwell := none, dwellMark := false } ∧
    t.trunk = { receiver := .hunting, queue := [], busy := [], ready := [],
                sending := some { source := .attention, kind := 4#8, tag := 0#8, payload := [2#8, 0#8, 0#8] },
                sendCount := 1, causes := { CauseSet.empty with warmStart := true }, attention := .sent,
                resetting := false } ∧
    ∀ l, (t.lane l).grant = none ∧ (t.lane l).waiting = none ∧ (t.lane l).reader = ReaderContext.reset ∧
      (t.lane l).settings = (s.lane l).settings ∧ (t.lane l).timer = none ∧ (t.lane l).carry = false ∧
      (t.lane l).rearm = .idle ∧ (t.lane l).effective = (s.lane l).effective ∧
      (t.lane l).armClosed = (s.lane l).armClosed ∧ (t.lane l).loiterMark = false ∧
      (t.lane l).loiterTimer = (if (s.lane l).mode ≠ .disabled ∧ ((s.lane l).beamA.raw || (s.lane l).beamB.raw) = true
        then some { elapsed := 0, limit := 1000 * (s.lane l).settings.loiterTime } else none) ∧
      (t.lane l).beamA = { raw := (s.lane l).beamA.raw, accepted := (s.lane l).beamA.raw, running := none } ∧
      (t.lane l).beamB = { raw := (s.lane l).beamB.raw, accepted := (s.lane l).beamB.raw, running := none } ∧
      (t.lane l).obstruction =
        { raw := (s.lane l).obstruction.raw, accepted := (s.lane l).obstruction.raw, running := none } ∧
      (t.lane l).mode = (match (s.lane l).mode with
        | .auto => .auto
        | .disabled => .disabled
        | _ => .held .closeArm) ∧
      (t.lane l).counts = (if (s.lane l).grant.isSome
        then { (s.lane l).counts with lapsed := min ((s.lane l).counts.lapsed + 1) 65535 } else (s.lane l).counts) ∧
      (t.lane l).recognizer = Recognizer.placed (s.lane l).beamA.raw (s.lane l).beamB.raw ∧
      (t.lane l).faults = { obstruction := (s.lane l).obstruction.raw, stuck := false } ∧
      (t.lane l).gate = (if (s.lane l).obstruction.raw then .released
        else if (s.lane l).armClosed then .shut
        else .closing { elapsed := 0, limit := (s.lane l).settings.closeLimit })

/-- The state after reset meets every invariant stated below but that of the idle line, which the transmitter brings about
by beginning the pending ATTENTION (R171); it holds no pass record and no day, has its ATTENTION pending, the line idle and
the send count 0, and the default trigger level and dwell time (R38, R141, R177, R185). That its inputs read inactive is
the model's choice, log entry 5. -/
def Obligations.ResetMeetsTheInvariants : Prop :=
  TablesCanonical State.reset ∧ LoadMatchesShadow State.reset ∧ TrunkSound State.reset ∧
    CountersBounded State.reset ∧ ClockSound State.reset.clock ∧ RecognizerSound State.reset ∧ GatesSound State.reset ∧
    PassesInUse State.reset ∧ AccountsSound State.reset ∧ GrantSlotsSound State.reset ∧
    BanksVouched State.reset ∧ HotListsOrdered State.reset ∧ RearmSound State.reset ∧ LoiterSound State.reset ∧
    AttentionSound State.reset ∧ LineBusyOrNothing State.reset.transmit ∧ State.reset.trunk.sending = none ∧
    State.reset.passes = [] ∧ State.reset.clock.dayState = .noDay ∧ State.reset.trunk.sendCount = 0 ∧
    State.reset.trunk.attention = .pending ∧ State.reset.reports.trigger = 8 ∧ State.reset.reports.dwellTime = 500

/-! ## The trunk -/

/-- The receiver takes exactly the frame that the layout gives: the bytes after the start byte of a frame of at most 1,024
payload bytes are judged good, with the frame's kind, tag and payload, at the last byte and not before (R163, R164, R186,
R187). -/
def Obligations.TrunkFramesAreReceivedWhole : Prop :=
  ∀ (kind tag : Byte) (payload : List Byte), payload.length ≤ 1024 →
    judgeFrame (trunkFrame kind tag payload).tail = .good kind tag payload ∧
      ∀ n, n < (trunkFrame kind tag payload).tail.length →
        judgeFrame ((trunkFrame kind tag payload).tail.take n) = .incomplete

/-- A good REQUEST is queued at the tail while fewer than 4 requests are queued, otherwise answered BUSY while fewer
than 8 BUSY answers stand, otherwise discarded (R165, R166). A BUSY answer carries its request's code, and 0 for an empty
payload (R186). -/
def Obligations.RequestsAreQueuedOrAnsweredBusy : Prop :=
  ∀ (s : State) (tag : Byte) (payload : List Byte), payload.length ≤ 1024 → s.trunk.receiver = .hunting →
    exec (.requestArrival (trunkFrame 1#8 tag payload)) s = .next (State.transmit
      (if s.trunk.queue.length < 4 then
        { s with trunk := { s.trunk with
            queue := s.trunk.queue ++ [{ tag := tag, payload := payload, condition := .waiting }] } }
      else if s.trunk.busy.length < 8 then
        { s with trunk := { s.trunk with
            busy := s.trunk.busy ++ [{ tag := tag, code := payload.headD 0#8 }], ready := s.trunk.ready ++ [.busy] } }
      else s))

/-- Frames without effect: a frame that fails, and a good frame of a kind the server has no reason to send, change
nothing; a frame broken off by 2 ms of silence changes nothing but the timers, which have run 2 ms (R164, R165). PAUSE and
RESUME set the pause state at their arrival (R165, R183). After each the transmitter goes on, so that a resumed queue may
begin its batch (R171). That the silence lets time pass is the model's choice, log entry 3. -/
def Obligations.OtherFramesReceived : Prop :=
  ∀ (s : State) (bytes : List Byte), s.trunk.receiver = .hunting →
    ((Instr.frameDiscarded bytes).wf = true → exec (.frameDiscarded bytes) s = .next s.transmit) ∧
    ((Instr.unexpectedFrame bytes).wf = true → exec (.unexpectedFrame bytes) s = .next s.transmit) ∧
    ((Instr.frameSilenceTimeout bytes).wf = true → exec (.frameSilenceTimeout bytes) s = .next (s.elapse 2)) ∧
    ((Instr.pauseReports bytes).wf = true →
      exec (.pauseReports bytes) s =
        .next (State.transmit { s with reports := { s.reports with paused := true } })) ∧
    ((Instr.resumeReports bytes).wf = true →
      exec (.resumeReports bytes) s =
        .next (State.transmit { s with reports := { s.reports with paused := false } }))

/-- A request taken that holds no request code, or a code that names no request, and a request whose parameters have not
the length of its form, are answered BAD_REQUEST and change nothing; a request that carries one lane refuses a number
that is no lane's with BAD_VALUE (R101, R103, R116, R122, R123, R167). The requests that carry a table refuse one that
is none of the three with BAD_VALUE, LOAD_BLOCK a payload that is not 16 entries with BAD_REQUEST, and LOAD_BLOCK and
LOAD_END a transaction that is not open or of another table with LOAD_NOT_OPEN (R9, R10, R14, R17); PASS_STORE a payload
that is not one transfer form with BAD_REQUEST (R28); a LOAD_BLOCK without any parameter is BAD_REQUEST too, log entry
11. That the BAD_REQUEST to an empty payload carries request code 0 is the model's reading, log entry 12. -/
def Obligations.UnfitRequestsAreRefused : Prop :=
  (∀ (s : State) (r : Request), s.takeable = some r →
    (r.payload = [] ∨ ∃ c rest, r.payload = c :: rest ∧ c ∉ requestCodes) →
      Answers .unknownRequest s s .badRequest []) ∧
  (∀ (s : State) (params : List Byte), ∀ row ∈ requestForms, s.takes row.2.1 = some params →
    params.length ≠ row.2.2 → Answers row.1 s s .badRequest []) ∧
  (∀ (s : State) (n : Byte), ∀ row ∈ laneRequests, s.takes row.2 = some [n] → ¬(1 ≤ n.toNat ∧ n.toNat ≤ 8) →
    Answers row.1 s s .badValue []) ∧
  (∀ (s : State) (table : Byte), tableOf table = none →
    (∀ entries, s.takes 17#8 = some (table :: entries) → Answers .loadBlock s s .badValue []) ∧
    (∀ e3 e2 e1 e0 : Byte, s.takes 18#8 = some [table, e3, e2, e1, e0] → Answers .loadEnd s s .badValue []) ∧
    (∀ bank block : Byte, s.takes 22#8 = some [table, bank, block] → Answers .tableRead s s .badValue [])) ∧
  (∀ (s : State) (table : Byte) (k : TableId), tableOf table = some k →
    (∀ entries, s.takes 17#8 = some (table :: entries) → entries.length ≠ 16 * k.entrySize →
      Answers .loadBlock s s .badRequest []) ∧
    ((∀ x, s.load = some x → x.table ≠ k) →
      (∀ entries, s.takes 17#8 = some (table :: entries) → entries.length = 16 * k.entrySize →
        Answers .loadBlock s s .loadNotOpen []) ∧
      ∀ e3 e2 e1 e0 : Byte, s.takes 18#8 = some [table, e3, e2, e1, e0] → Answers .loadEnd s s .loadNotOpen []) ∧
    (∀ entries x, s.takes 17#8 = some (table :: entries) → entries.length = 16 * k.entrySize → s.load = some x →
      x.table = k → x.remaining = 0 → Answers .loadBlock s s .badValue [])) ∧
  ∀ s : State,
    (s.takes 17#8 = some [] → Answers .loadBlock s s .badRequest []) ∧
    ∀ form, s.takes 32#8 = some form → form.length ≠ 47 → Answers .passStore s s .badRequest []

/-- IDENT gives the part's identity and changes nothing (R175). STATUS_READ takes the cause set and empties it, moves the
attention state to QUIET, and gives the set as taken with the bank summary: day state, today, time of day, clock state,
lift state, pace source, each lane's mode and fault set, and the attention state before (R143, R173, R174). UNIT_RESET is
answered OK, and no further request is taken after it (R176). Where the layout of results is the model's reading, log
entry 11 says so. -/
def Obligations.TrunkRequestsAnswered : Prop :=
  ∀ s : State,
    (s.takes 1#8 = some [] → Answers .ident s s .ok
      ([70#8] ++ be 2 480 ++ [1#8] ++ be 2 8 ++ be 2 64 ++ be 2 1024 ++ be 2 208 ++ be 2 4096 ++ be 2 256 ++ be 2 4 ++
        be 2 1024)) ∧
    (s.takes 2#8 = some [] →
      let c := s.trunk.causes
      Answers .statusRead s { s with trunk := { s.trunk with causes := .empty, attention := .quiet } } .ok
        (fields ([(1, oneBit c.coldStart + 2 * oneBit c.warmStart + 4 * oneBit (c.readerLost != 0#8) +
              8 * oneBit (c.laneFault != 0#8) + 16 * oneBit c.liftStopped + 32 * oneBit c.reportBacklog +
              64 * oneBit c.reportOverflow), (1, c.readerLost.toNat), (1, c.laneFault.toNat)] ++
            dayRows s.clock ++
            [(1, match s.pacing.lift with | .stopped => 0 | .running => 1),
              (1, match s.pacing.source with | .external => 0 | .internal => 1)] ++
            s.lanes.toList.flatMap (fun x =>
              [(1, modeCode x.mode), (1, oneBit x.faults.obstruction + 2 * oneBit x.faults.stuck)]) ++
            [(1, match s.trunk.attention with | .quiet => 0 | .pending => 1 | .sent => 2)]))) ∧
    (s.takes 3#8 = some [] →
      Answers .unitReset s { s with trunk := { s.trunk with resetting := true } } .ok [] ∧
      State.takeable { s with trunk := { s.trunk with resetting := true } } = none)

/-- When a frame has been sent, a response leaves the request queue's head, a BUSY answer its list, and the transmitter
goes on; when the response was that of UNIT_RESET, a warm start begins (R166, R171, R176). -/
def Obligations.FrameSentGoesOn : Prop :=
  ∀ (s : State) (f : OutFrame), s.trunk.sending = some f →
    (f.source = .answer .response → ¬(s.trunk.resetting = true ∧ f.payload = [3#8, 0#8]) →
      exec .frameSent s = .next (State.transmit
        { s with trunk := { s.trunk with sending := none, queue := s.trunk.queue.drop 1 } })) ∧
    (f.source = .answer .response → s.trunk.resetting = true → f.payload = [3#8, 0#8] →
      exec .frameSent s = .next (s.warmStart.transmit)) ∧
    (f.source = .answer .busy →
      exec .frameSent s = .next (State.transmit
        { s with trunk := { s.trunk with sending := none, busy := s.trunk.busy.drop 1 } })) ∧
    ((f.source = .attention ∨ f.source = .batch) →
      exec .frameSent s = .next (State.transmit { s with trunk := { s.trunk with sending := none } }))

/-- What the transmitter begins, and in which order: nothing while a frame is being sent; the pending ATTENTION with the
cause set as it stands and the send count as its tag; otherwise the oldest ready answer; otherwise a batch, when the
report queue calls for one. Nothing else changes. After it, an idle line leaves nothing that could be sent, while
answers and lists agree (R166, R171, R172, R173, R182). -/
def Obligations.TransmitterOrder : Prop :=
  ∀ s : State,
    (∀ f, s.trunk.sending = some f → s.transmit = s) ∧
    (s.trunk.sending = none → s.trunk.attention = .pending →
      s.transmit = { s with trunk := { s.trunk with
        sending := some { source := .attention, kind := 4#8, tag := BitVec.ofNat 8 s.trunk.sendCount,
                          payload := s.trunk.causes.bytes },
        sendCount := (s.trunk.sendCount + 1) % 256, attention := .sent } }) ∧
    (s.trunk.sending = none → s.trunk.attention ≠ .pending →
      (∀ r rest q more, s.trunk.ready = .response :: rest → s.trunk.queue = q :: more → q.condition = .answered r →
        s.transmit = { s with trunk := { s.trunk with
          ready := rest, sending := some { source := .answer .response, kind := 2#8, tag := q.tag, payload := r } } }) ∧
      (∀ rest b more, s.trunk.ready = .busy :: rest → s.trunk.busy = b :: more →
        s.transmit = { s with trunk := { s.trunk with
          ready := rest,
          sending := some { source := .answer .busy, kind := 2#8, tag := b.tag, payload := [b.code, 1#8] } } }) ∧
      (s.trunk.ready = [] → s.reports.paused = false →
        (s.reports.trigger ≤ s.reports.records.length ∨ s.reports.dwellMark = true) → s.transmit = s.beginBatch) ∧
      (s.trunk.ready = [] →
        (s.reports.paused = true ∨
          (s.reports.records.length < s.reports.trigger ∧ s.reports.dwellMark = false)) → s.transmit = s)) ∧
    (QueueOrdered s → AnswersReady s → LineBusyOrNothing s.transmit)

/-! ## Tables -/

/-- LOAD_BEGIN opens a transaction and prepares the shadow: all empty for FRESH, the active bank for PATCH, its signature
absent and its state LOADING; an open transaction refuses it, and so do an unknown table or mode and a range beyond the
table (R7, R8). LOAD_ABORT empties the shadow and closes the transaction (R13). -/
def Obligations.LoadsBeginAndAbort : Prop :=
  ∀ s : State,
    (∀ (table mode hi lo count : Byte) (k : TableId) (m : LoadMode),
      s.takes 16#8 = some [table, mode, hi, lo, count] → s.load = none → tableOf table = some k →
      LoadMode.ofCode mode = some m → 1 ≤ count.toNat → count.toNat ≤ 64 →
      256 * hi.toNat + lo.toNat + 16 * count.toNat ≤ k.capacity →
      Answers .loadBegin s
        { s.setBanks k { s.banks k with
            shadow := (match m with | .fresh => [] | .patch => (s.banks k).active), shadowSig := none,
            shadowState := .loading } with
          load := some { table := k, mode := m, first := 256 * hi.toNat + lo.toNat, count := count.toNat,
                         remaining := count.toNat, expected := none } } .ok [count]) ∧
    (∀ (table mode hi lo count : Byte), s.takes 16#8 = some [table, mode, hi, lo, count] →
      (∀ x, s.load = some x → Answers .loadBegin s s .loadOpen []) ∧
      (s.load = none → (tableOf table = none ∨ LoadMode.ofCode mode = none ∨ ¬(1 ≤ count.toNat ∧ count.toNat ≤ 64) ∨
          ∃ k, tableOf table = some k ∧ k.capacity < 256 * hi.toNat + lo.toNat + 16 * count.toNat) →
        Answers .loadBegin s s .badValue [])) ∧
    (s.takes 19#8 = some [] →
      (s.load = none → Answers .loadAbort s s .loadNotOpen []) ∧
      ∀ x, s.load = some x → Answers .loadAbort s
        { s.setBanks x.table { s.banks x.table with shadow := [], shadowSig := none, shadowState := .empty } with
          load := none } .ok [BitVec.ofNat 8 x.table.code])

/-- An accepted LOAD_BLOCK writes its 16 entries at the next position of the shadow and no other byte of any bank, lowers
the blocks remaining by 1, and makes the shadow LOADED at the last block (R9). A byte is what `Memory.read` gives. -/
def Obligations.LoadBlockWritesItsBlock : Prop :=
  ∀ (s : State) (table : Byte) (entries : List Byte) (k : TableId) (x : LoadTransaction),
    TablesCanonical s → s.takes 17#8 = some (table :: entries) → tableOf table = some k →
    entries.length = 16 * k.entrySize → s.load = some x → x.table = k → 1 ≤ x.remaining →
      ∃ b : Banks,
        Answers .loadBlock s { s.setBanks k b with load := some { x with remaining := x.remaining - 1 } } .ok
          (item 1 (x.remaining - 1)) ∧
        b.active = (s.banks k).active ∧ b.activeSig = (s.banks k).activeSig ∧ b.shadowSig = (s.banks k).shadowSig ∧
        b.shadowState = (if x.remaining = 1 then .loaded else (s.banks k).shadowState) ∧
        (∀ a, b.shadow.read a =
          if k.entrySize * (x.first + 16 * (x.count - x.remaining)) ≤ a ∧
              a < k.entrySize * (x.first + 16 * (x.count - x.remaining)) + 16 * k.entrySize
          then entries.getD (a - k.entrySize * (x.first + 16 * (x.count - x.remaining))) 0#8
          else (s.banks k).shadow.read a)

/-- LOAD_END begins the check of a complete load and holds the queue; blocks remaining refuse it (R10, R169). At the
check's completion the computed signature becomes the shadow's, the transaction closes, and the LOAD_END is answered:
SIGNATURE_MISMATCH, ORDER_ERROR with the first offending position of a hot list, or OK (R11, R12). Where the layout of
results is the model's reading, log entry 11 says so. -/
def Obligations.LoadEndAndItsCheck : Prop :=
  ∀ s : State,
    (∀ (table e3 e2 e1 e0 : Byte) (k : TableId) (x : LoadTransaction),
      s.takes 18#8 = some [table, e3, e2, e1, e0] → tableOf table = some k → s.load = some x → x.table = k →
      (1 ≤ x.remaining → Answers .loadEnd s s .loadIncomplete (item 1 x.remaining)) ∧
      (x.remaining = 0 → exec .loadEnd s = .next (State.transmit
        { s.setBanks k { s.banks k with shadowState := .checking } with
          load := some { x with expected := some (BitVec.ofNat 32 (ofBe [e3, e2, e1, e0])) },
          trunk := { s.trunk with queue := setOldest .taken s.trunk.queue } }))) ∧
    ∀ (x : LoadTransaction) (expected : Signature), s.load = some x → x.expected = some expected →
      let sig := signatureOf ((s.banks x.table).shadow.readBytes 0 (x.table.entrySize * x.table.capacity))
      let closed (state : ShadowState) : State :=
        { s.setBanks x.table { s.banks x.table with shadowSig := some sig, shadowState := state } with load := none }
      (sig ≠ expected →
        Answers .loadCheckComplete s (closed .corrupt) .signatureMismatch (1#8 :: be 4 sig.toNat)) ∧
      (∀ i, sig = expected → x.table = .hotList → firstOutOfOrder (s.banks .hotList).shadow = some i →
        Answers .loadCheckComplete s (closed .corrupt) .orderError (1#8 :: be 4 sig.toNat ++ item 2 i)) ∧
      (sig = expected → (x.table = .hotList → firstOutOfOrder (s.banks .hotList).shadow = none) →
        Answers .loadCheckComplete s (closed .verified) .ok (1#8 :: be 4 sig.toNat))

/-- TABLE_ACTIVATE swaps the two banks whole and makes the shadow STALE, when the shadow is VERIFIED or STALE; an open
load of the table and any other shadow state refuse it (R14). TABLE_READ gives the 16 entries of a block of either bank
and changes nothing (R17). TABLE_INFO gives each table's shadow state, blocks remaining and two signatures, and the open
load transaction, and changes nothing (R16). The order of the tables and the layout of results are the model's reading,
log entry 11. -/
def Obligations.TablesSwappedAndRead : Prop :=
  (∀ (s : State) (table : Byte), tableOf table = none → s.takes 20#8 = some [table] →
    Answers .tableActivate s s .badValue []) ∧
  ∀ (s : State) (table : Byte) (k : TableId), tableOf table = some k →
    (s.takes 20#8 = some [table] →
      ((∀ x, s.load = some x → x.table ≠ k) →
        ((s.banks k).shadowState = .verified ∨ (s.banks k).shadowState = .stale) →
        Answers .tableActivate s
          (s.setBanks k { active := (s.banks k).shadow, activeSig := (s.banks k).shadowSig,
                          shadow := (s.banks k).active, shadowSig := (s.banks k).activeSig, shadowState := .stale })
          .ok (fields (signatureRows (s.banks k).shadowSig))) ∧
      (∀ x, s.load = some x → x.table = k → Answers .tableActivate s s .loadOpen []) ∧
      ((∀ x, s.load = some x → x.table ≠ k) →
        ¬((s.banks k).shadowState = .verified ∨ (s.banks k).shadowState = .stale) →
        Answers .tableActivate s s .notReady [])) ∧
    (∀ bank block : Byte, s.takes 22#8 = some [table, bank, block] →
      (bank = 0#8 → block.toNat < k.blocks → Answers .tableRead s s .ok
        ((s.banks k).active.readBytes (k.entrySize * (16 * block.toNat)) (16 * k.entrySize))) ∧
      (bank = 1#8 → block.toNat < k.blocks → Answers .tableRead s s .ok
        ((s.banks k).shadow.readBytes (k.entrySize * (16 * block.toNat)) (16 * k.entrySize))) ∧
      ((bank ≠ 0#8 ∧ bank ≠ 1#8) ∨ k.blocks ≤ block.toNat → Answers .tableRead s s .badValue [])) ∧
    (s.takes 21#8 = some [] →
      let remaining (t : TableId) : Nat :=
        match s.load with
        | none => 0
        | some x => if x.table = t then x.remaining else 0
      let rows (t : TableId) (b : Banks) : List (Nat × Nat) :=
        [(1, match b.shadowState with
            | .empty => 0 | .loading => 1 | .loaded => 2 | .checking => 3 | .verified => 4 | .corrupt => 5 | .stale => 6),
          (1, remaining t)] ++ signatureRows b.activeSig ++ signatureRows b.shadowSig
      Answers .tableInfo s s .ok (fields (rows .products s.products ++ rows .hotList s.hotList ++ rows .days s.days ++
        optRows 5 (s.load.map (fun x =>
          [(1, match x.table with | .products => 1 | .hotList => 2 | .days => 3),
            (1, match x.mode with | .fresh => 0 | .patch => 1), (2, x.first), (1, x.count)])))))

/-- The lookups with their clamps (R2, R3, R4, R5, R11), from the bytes of a bank. A product lookup is not valid for a code
of 64 or above, an entry not marked valid or a class that is none of the three; otherwise each field is brought into its
range, W first and A by W as used. A serial is listed when it is not 0 and stands at some position. A day's status and
minutes are used as stored, clamped, or as the empty entry's. The hours test compares minutes, past midnight when they wrap,
and around the clock when they are equal. The first offending position of a hot list is the lowest non-zero one behind an
empty position or a serial not less than it, and there is none exactly in a well-formed list. -/
def Obligations.TablesLookedUp : Prop :=
  (∀ (m : Memory) (code : Nat),
    let at_ (i : Nat) : Nat := (m.read (24 * code + i)).toNat
    let two (i : Nat) : Nat := 256 * at_ i + at_ (i + 1)
    let upTo (high v : Nat) : Nat := if high < v then high else v
    (64 ≤ code ∨ at_ 0 ≠ 1 ∨ 2 < at_ 1 → lookupProduct m code = none) ∧
    (code < 64 → at_ 0 = 1 → at_ 1 ≤ 2 →
      let season := at_ 1 = 2
      let window := if season then 208 else if at_ 2 = 0 then 1 else upTo 14 (at_ 2)
      lookupProduct m code = some {
        cls := if at_ 1 = 0 then .day else if at_ 1 = 1 then .multiDay else .season,
        window := window, allowed := if at_ 3 = 0 then 1 else upTo window (at_ 3),
        riders := if at_ 4 = 0 then 1 else upTo 6 (at_ 4), rideLimit := upTo 250 (at_ 5), passback := upTo 60 (at_ 6),
        price := upTo 999999 (65536 * two 7 + two 9), refundable := decide (at_ 11 = 1),
        futureRate := upTo 100 (at_ 12), partialRate := upTo 100 (at_ 13), fee := upTo 99999 (256 * two 14 + at_ 16),
        minimum := upTo 99999 (256 * two 17 + at_ 19),
        step := if two 20 = 1 ∨ two 20 = 5 ∨ two 20 = 10 ∨ two 20 = 25 ∨ two 20 = 50 ∨ two 20 = 100 then two 20 else 1,
        lanes := m.read (24 * code + 22), admitUnlisted := decide (at_ 23 = 1) })) ∧
  (∀ m : Memory,
    let serialAt (i : Nat) : Nat := ofBe ((List.range 5).map (fun k => m.read (5 * i + k)))
    let offends (i : Nat) : Prop := 1 ≤ i ∧ i ≤ 1023 ∧ serialAt i ≠ 0 ∧ (serialAt (i - 1) = 0 ∨ serialAt i ≤ serialAt (i - 1))
    (∀ serial, listed m serial = true ↔ serial ≠ 0 ∧ ∃ i, i < 1024 ∧ serialAt i = serial) ∧
    (∀ i, firstOutOfOrder m = some i ↔ offends i ∧ ∀ k, k < i → ¬offends k) ∧
    (firstOutOfOrder m = none ↔ HotListOrdered m)) ∧
  (∀ (m : Memory) (d : Nat),
    let two (i : Nat) : Nat := 256 * (m.read (6 * d + i)).toNat + (m.read (6 * d + i + 1)).toNat
    (207 < d → dayStatus m d = .unscheduled ∧ openingMinute m d = 0 ∧ closingMinute m d = 0) ∧
    (d ≤ 207 →
      (dayStatus m d = .isOpen ↔ two 0 = 1) ∧ (dayStatus m d = .isPartial ↔ two 0 = 2) ∧
      (dayStatus m d = .isClosed ↔ two 0 = 3) ∧
      openingMinute m d = (if 1439 < two 2 then 1439 else two 2) ∧
      closingMinute m d = (if 1439 < two 4 then 1439 else two 4))) ∧
  ∀ o c now : Nat,
    (o < c → (withinHours o c now = true ↔ 60 * o ≤ now ∧ now < 60 * c)) ∧
    (c < o → (withinHours o c now = true ↔ 60 * o ≤ now ∨ now < 60 * c)) ∧
    (o = c → withinHours o c now = true)

/-! ## Pass records -/

/-- A record in range goes through the transfer form and back, but for its grant lane and its origin, which a store sets
anew (R29, R190). -/
def Obligations.TransferFormReadsBack : Prop :=
  ∀ r : PassRecord, r.serial < 2 ^ 40 → r.product < 256 → r.firstDay < 256 → r.window < 256 → r.ridesToday < 256 →
    (∀ v ∈ r.pricePaid, v < 2 ^ 24) → (∀ v ∈ r.lastPassage, v < 2 ^ 24) →
    (∀ f ∈ r.refund, f.amount < 2 ^ 24 ∧ f.referenceDay < 256) →
    r.usedDays.Pairwise (· < ·) → (∀ d ∈ r.usedDays, d ≤ 207) →
      r.transferForm.length = 47 ∧
      storedForm r.transferForm =
        { record := { r with grantLane := none, origin := .loaded }, refundedState := r.refund.isSome,
          refundPresent := r.refund.isSome }

/-- An accepted PASS_STORE puts the record of the form into the table, in place of a record of its serial or as a new one,
and changes no other record; a serial in grant and a full table refuse it (R28, R29, R30). -/
def Obligations.PassStorePutsTheRecord : Prop :=
  ∀ (s : State) (form : List Byte), s.takes 32#8 = some form → form.length = 47 →
    let f := storedForm form
    let r := f.record
    let fits := 1 ≤ r.serial ∧ r.firstDay ≤ 207 ∧ (1 ≤ r.window ∧ r.window ≤ 14 ∨ r.window = 208) ∧
      (∀ d ∈ r.usedDays, r.firstDay ≤ d ∧ d < r.firstDay + r.window) ∧ (∀ v ∈ r.pricePaid, v ≤ 999999) ∧
      (∀ v ∈ r.lastPassage, v ≤ 86399) ∧ f.refundedState = f.refundPresent ∧
      (∀ x ∈ r.refund, ∃ p, lookupProduct s.products.active r.product = some p ∧ 1 ≤ x.amount ∧
        p.minimum ≤ x.amount ∧ p.step ∣ x.amount ∧ x.amount ≤ r.pricePaid.getD p.price ∧ x.referenceDay ≤ 208)
    (¬fits → Answers .passStore s s .badValue (item 2 s.passes.length)) ∧
    (∀ old l, fits → findPass s.passes r.serial = some old → old.grantLane = some l →
      Answers .passStore s s .passInGrant (item 2 s.passes.length ++ be 1 (laneNumber l))) ∧
    (fits → findPass s.passes r.serial = none → 4096 ≤ s.passes.length →
      Answers .passStore s s .tableFull (item 2 s.passes.length)) ∧
    (∀ old, fits → findPass s.passes r.serial = some old → old.grantLane = none →
      ∃ ps : List PassRecord, Answers .passStore s { s with passes := ps } .ok ([1#8] ++ item 2 ps.length) ∧
        findPass ps r.serial = some r ∧ ∀ k, k ≠ r.serial → findPass ps k = findPass s.passes k) ∧
    (fits → findPass s.passes r.serial = none → s.passes.length < 4096 →
      ∃ ps : List PassRecord, Answers .passStore s { s with passes := ps } .ok ([0#8] ++ item 2 ps.length) ∧
        ps.length = s.passes.length + 1 ∧
        findPass ps r.serial = some r ∧ ∀ k, k ≠ r.serial → findPass ps k = findPass s.passes k)

/-- PASS_FETCH gives a record's transfer form, and PASS_SCAN up to 8 records above a serial with the more-follow flag;
neither changes anything (R31, R33). PASS_REMOVE takes a record that is not in grant out of the table, gives it, and
changes no other record (R32). -/
def Obligations.PassesFetchedScannedRemoved : Prop :=
  ∀ (s : State) (s4 s3 s2 s1 s0 : Byte),
    let serial := ofBe [s4, s3, s2, s1, s0]
    (s.takes 33#8 = some [s4, s3, s2, s1, s0] →
      (∀ r, 1 ≤ serial → findPass s.passes serial = some r → Answers .passFetch s s .ok r.transferForm) ∧
      ((serial = 0 ∨ findPass s.passes serial = none) → Answers .passFetch s s .notFound [])) ∧
    (s.takes 34#8 = some [s4, s3, s2, s1, s0] →
      ((serial = 0 ∨ findPass s.passes serial = none) → Answers .passRemove s s .notFound []) ∧
      (∀ r l, 1 ≤ serial → findPass s.passes serial = some r → r.grantLane = some l →
        Answers .passRemove s s .passInGrant (be 1 (laneNumber l))) ∧
      (∀ r, 1 ≤ serial → findPass s.passes serial = some r → r.grantLane = none →
        ∃ ps : List PassRecord,
          Answers .passRemove s { s with passes := ps } .ok (item 2 ps.length ++ r.transferForm) ∧
          findPass ps serial = none ∧ ∀ k, k ≠ serial → findPass ps k = findPass s.passes k)) ∧
    ∀ count : Byte, s.takes 35#8 = some [s4, s3, s2, s1, s0, count] →
      let n := max 1 (min 8 count.toNat)
      let found := s.passes.filter (fun r => decide (serial < r.serial))
      Answers .passScan s s .ok
        (be 1 n ++ (found.take n).flatMap PassRecord.transferForm ++ [if n < found.length then 1#8 else 0#8])

/-! ## Gates -/

/-- How a command moves the gate (R105): without effect under a fault; open and free act at once; close leaves SHUT and
CLOSING alone and brings OPEN and RELEASED to SHUT when the arm is closed already, otherwise to CLOSING with a fresh
close-limit timer (R106). -/
def Obligations.GateMoves : Prop :=
  ∀ x : Lane,
    (x.faults.obstruction = true ∨ x.faults.stuck = true → ∀ c, x.gateAfter c = x.gate) ∧
    (x.faults = { obstruction := false, stuck := false } →
      x.gateAfter .openArm = .opened ∧ x.gateAfter .freeArm = .released ∧
      (x.gate = .shut → x.gateAfter .closeArm = .shut) ∧
      (∀ k, x.gate = .closing k → x.gateAfter .closeArm = .closing k) ∧
      (x.gate = .opened ∨ x.gate = .released →
        x.gateAfter .closeArm =
          if x.armClosed then .shut else .closing { elapsed := 0, limit := x.settings.closeLimit }))

/-- The re-derivation of a lane's command (R107): it touches only that lane's grant and gate; the command is open
exactly when a grant that is not DRAINING has its window active, the lane has no fault, and a paced lane's lift is
RUNNING; in AUTO and HOLD_PENDING the grant becomes OPEN or WAITING by it, DRAINING staying; the governing command is
issued to the gate. R107 issues it when it changes; that it is issued at every re-derivation, changed or not, is the
model's reading, log entry 15. -/
def Obligations.DerivedCommandGoverns : Prop :=
  ∀ (s : State) (l : Lane.Index),
    let x := s.lane l
    let isOpen := ∃ g, x.grant = some g ∧ g.state ≠ .draining ∧ x.windowActive = true ∧
      x.faults = { obstruction := false, stuck := false } ∧ (x.settings.pace = .free ∨ s.pacing.lift = .running)
    (x.derivedOpen s.pacing.lift = true ↔ isOpen) ∧
    (∃ y : Lane, s.derive l = s.setLane l y ∧ y = { x with grant := y.grant, gate := y.gate } ∧
      (x.mode = .auto ∨ x.mode = .holdPending →
        y.grant = x.grant.map (fun g => if g.state = .draining then g
          else { g with state := if x.derivedOpen s.pacing.lift then .opened else .waiting }) ∧
        y.gate = x.gateAfter (if x.derivedOpen s.pacing.lift then .openArm else .closeArm)) ∧
      (∀ c, x.mode = .held c → y.grant = x.grant ∧ y.gate = x.gateAfter c) ∧
      (x.mode = .disabled → y.grant = x.grant ∧ y.gate = x.gateAfter .closeArm))

/-- When a lane's window is active (R108, R109, R110): on a FREE lane from OPEN_AT to the end of the grant; on a paced
lane between OPEN_AT and CLOSE_AT, for a wrapped window from OPEN_AT on, and before CLOSE_AT with the carry mark; never
without a running lane timer, and never with OPEN_AT = CLOSE_AT on a paced lane. When the lane timer reaches OPEN_AT,
and on a paced lane CLOSE_AT, the offset counts as reached and the command is re-derived. That the time up to the offset
passes at its command is the model's choice, log entry 3. -/
def Obligations.WindowsActive : Prop :=
  (∀ x : Lane,
    (x.timer = none → x.windowActive = false) ∧
    ∀ t, x.timer = some t →
      (x.settings.pace = .free → (x.windowActive = true ↔ x.grant.isSome = true ∧ t.openReached = true)) ∧
      (x.settings.pace = .paced →
        (x.effective.openAt < x.effective.closeAt →
          (x.windowActive = true ↔ t.openReached = true ∧ t.closeReached = false)) ∧
        (x.effective.closeAt < x.effective.openAt →
          (x.windowActive = true ↔ t.openReached = true ∨ (x.carry = true ∧ t.closeReached = false))) ∧
        (x.effective.openAt = x.effective.closeAt → x.windowActive = false))) ∧
  ∀ (s : State) (n : Nat) (l : Lane.Index) (k : LaneTimer), laneOf n = some l → (s.lane l).timer = some k →
    (k.openReached = false →
      let u := s.elapse ((s.lane l).effective.openAt - k.t)
      exec (.windowOpenAt n) s = .next (State.transmit (State.rederive
        (u.setLane l { u.lane l with
          timer := some { k with t := k.t + ((s.lane l).effective.openAt - k.t), openReached := true } }) l))) ∧
    (k.closeReached = false → (s.lane l).settings.pace = .paced →
      let u := s.elapse ((s.lane l).effective.closeAt - k.t)
      exec (.windowCloseAt n) s = .next (State.transmit (State.rederive
        (u.setLane l { u.lane l with
          timer := some { k with t := k.t + ((s.lane l).effective.closeAt - k.t), closeReached := true } }) l)))

/-- LANE_HOLD (R101): a lane in AUTO with an empty slot becomes HELD with held command CLOSE, a HOLD_ENTERED record and
the gate commanded close; one with a grant becomes HOLD_PENDING, its waiting credential denied LANE_HELD; a held lane
stays as it is, and a DISABLED one refuses. LANE_RELEASE (R103): HELD becomes AUTO with a HOLD_LEFT record and the gate
commanded close, HOLD_PENDING becomes AUTO without a record. GATE_COMMAND (R104) sets and issues the held command of a
HELD lane, refuses every other mode with LANE_STATE, and a lane outside 1 to 8 or a command that is none of the three with
BAD_VALUE. Where the layout of results is the model's reading, log entry 11 says so. -/
def Obligations.HoldsAndGateCommands : Prop :=
  (∀ (s : State) (n m : Byte), s.takes 50#8 = some [n, m] → (¬(1 ≤ n.toNat ∧ n.toNat ≤ 8) ∨ 3 ≤ m.toNat) →
    Answers .gateCommand s s .badValue []) ∧
  ∀ (s : State) (n : Byte) (l : Lane.Index), laneOf n.toNat = some l →
    let x := s.lane l
    (s.takes 48#8 = some [n] →
      (x.mode = .auto → x.grant = none → Answers .laneHold s
        (State.append (s.setLane l { x with mode := .held .closeArm, gate := x.gateAfter .closeArm })
          (.laneEvent l .holdEntered)) .ok [2#8]) ∧
      (∀ g, x.mode = .auto → x.grant = some g → x.waiting = none → ∃ t,
        t = State.rederive (s.setLane l { x with mode := .holdPending }) l ∧
        Answers .laneHold s t .ok [BitVec.ofNat 8 (t.lane l).mode.code]) ∧
      (∀ g w, x.mode = .auto → x.grant = some g → x.waiting = some w → ∃ t,
        t = State.rederive (State.setLane (State.deny (s.setLane l { x with waiting := none }) l .laneHeld) l
          { (State.deny (s.setLane l { x with waiting := none }) l .laneHeld).lane l with mode := .holdPending }) l ∧
        Answers .laneHold s t .ok [BitVec.ofNat 8 (t.lane l).mode.code]) ∧
      (x.mode = .holdPending → Answers .laneHold s s .ok [1#8]) ∧
      (∀ c, x.mode = .held c → Answers .laneHold s s .ok [2#8]) ∧
      (x.mode = .disabled → Answers .laneHold s s .laneState [])) ∧
    (s.takes 49#8 = some [n] →
      (∀ c, x.mode = .held c → x.grant = none → Answers .laneRelease s
        (State.append (s.setLane l { x with mode := .auto, gate := x.gateAfter .closeArm }) (.laneEvent l .holdLeft)) .ok
        [0#8]) ∧
      (x.mode = .holdPending → ∃ t, t = State.rederive (s.setLane l { x with mode := .auto }) l ∧
        Answers .laneRelease s t .ok [BitVec.ofNat 8 (t.lane l).mode.code]) ∧
      (x.mode = .auto → Answers .laneRelease s s .ok [0#8]) ∧
      (x.mode = .disabled → Answers .laneRelease s s .laneState [])) ∧
    ∀ (m : Byte) (c : GateCommand), GateCommand.ofCode m = some c → s.takes 50#8 = some [n, m] →
      (∀ d, x.mode = .held d → x.grant = none → Answers .gateCommand s
        (s.setLane l { x with mode := .held c, gate := x.gateAfter c }) .ok
        [1#8, m, BitVec.ofNat 8 (x.gateAfter c).code]) ∧
      ((∀ d, x.mode ≠ .held d) → Answers .gateCommand s s .laneState [])

/-- FAULT_CLEAR (R116): OK on a lane without a fault; LANE_STATE while the obstruction input's accepted level is active;
otherwise every fault is cleared (R119), in every mode and with every grant. A clearing of any kinds, by FAULT_CLEAR, by the
re-arm timer, at a sync event or by PACED to FREE, leaves what R119 says: the kinds leave the fault set, each one that was
set is recorded with FAULT_CLEARED, and over an empty fault set the gate is commanded close and then follows the governing
command, so that a HELD lane's OPEN reopens it and its FREE releases it, a grant whose window is active opens it, and a
DRAINING grant completes when the close reaches SHUT; no other lane changes. What becomes of the gate and the grant is said
of lanes whose grants stand in AUTO or HOLD_PENDING only, as StepsKeepTheGatesSafe keeps them; the fault set, the re-arm
timing and the other lanes of every lane. The order of the two records of a clearing of both kinds is the model's choice,
log entry 24; where the layout of results is the model's reading, log entry 11 says so. -/
def Obligations.FaultsCleared : Prop :=
  (∀ (s : State) (l : Lane.Index) (k : FaultSet),
    ((s.lane l).grant.isSome = true → (s.lane l).mode = .auto ∨ (s.lane l).mode = .holdPending) →
      s.clearFaults l k = faultsCleared s l k) ∧
  ∀ (s : State) (n : Byte) (l : Lane.Index), laneOf n.toNat = some l → s.takes 51#8 = some [n] →
    let x := s.lane l
    (x.faults = { obstruction := false, stuck := false } → Answers .faultClear s s .ok [0#8]) ∧
    ((x.faults.obstruction = true ∨ x.faults.stuck = true) → x.obstruction.accepted = true →
      Answers .faultClear s s .laneState (fields [(1, oneBit x.faults.obstruction + 2 * oneBit x.faults.stuck)])) ∧
    ((x.faults.obstruction = true ∨ x.faults.stuck = true) → x.obstruction.accepted = false → ∃ t,
      Answers .faultClear s t .ok [0#8] ∧
      (t.lane l).faults = { obstruction := false, stuck := false } ∧ (t.lane l).rearm = .idle ∧
      (∀ k, k ≠ l → t.lane k = s.lane k) ∧
      ((x.grant.isSome = true → x.mode = .auto ∨ x.mode = .holdPending) →
        t = faultsCleared s l { obstruction := true, stuck := true }))

/-- LANE_RESET (R96, R123): accepted in any mode. The grant is discarded and counted LAPSED with GRANT_LAPSED whatever its
passages, its record's grant lane cleared; the waiting slot empties without a verdict; beams and recognizer are placed
afresh (R77, R82); HOLD_PENDING becomes HELD with HOLD_ENTERED, and a HELD lane's command becomes CLOSE; faults, re-arm
timing and carry mark are gone without a record, a paced lane's timer and effective window kept; the gate is closed; an
active obstruction input sets OBSTRUCTION again, with FAULTS, FAULT_SET and the attention, and the gate RELEASED. Settings,
the reader context, the other lanes and the bank's pacing are untouched. -/
def Obligations.LaneResetLeaves : Prop :=
  ∀ (s : State) (n : Byte) (l : Lane.Index), laneOf n.toNat = some l → s.takes 55#8 = some [n] →
    let x := s.lane l
    let blocked := x.obstruction.raw
    let mode : LaneMode := match x.mode with
      | .auto => .auto
      | .disabled => .disabled
      | _ => .held .closeArm
    let placed := Recognizer.placed x.beamA.raw x.beamB.raw
    let y : Lane := { x with
      grant := none, waiting := none, mode := mode, recognizer := placed, loiterMark := false,
      loiterTimer := (if placed = .clear ∨ x.mode = .disabled then none
        else some { elapsed := 0, limit := 1000 * x.settings.loiterTime }),
      beamA := { raw := x.beamA.raw, accepted := x.beamA.raw, running := none },
      beamB := { raw := x.beamB.raw, accepted := x.beamB.raw, running := none },
      obstruction := { raw := blocked, accepted := blocked, running := none },
      faults := { obstruction := blocked, stuck := false }, rearm := .idle, carry := false,
      timer := (if x.grant.isSome = true ∧ x.settings.pace = .free then none else x.timer),
      gate := (if blocked then .released
        else match x.gate with
          | .shut => .shut
          | _ => if x.armClosed then .shut else .closing { elapsed := 0, limit := x.settings.closeLimit }),
      counts := { x.counts with
        lapsed := if x.grant.isSome then min (x.counts.lapsed + 1) 65535 else x.counts.lapsed,
        faults := if blocked then min (x.counts.faults + 1) 65535 else x.counts.faults } }
    let records : List RecordBody :=
      (match x.grant with | none => [] | some g => [.grantLapsed g.serial l]) ++
      (if x.mode = .holdPending then [.laneEvent l .holdEntered] else []) ++
      (if blocked then [.laneEvent l (.faultSet .obstruction)] else [])
    let t := records.foldl State.append { s.setLane l y with passes := (match x.grant with
      | none => s.passes
      | some g => s.passes.map (fun r => if r.serial = g.serial then { r with grantLane := none } else r)) }
    Answers .laneReset s
      (if blocked then t.raise (fun k => { k with laneFault := k.laneFault ||| laneBit l }) else t) .ok
      (fields [(1, modeCode mode), (1, match y.gate with | .shut => 0 | .opened => 1 | .closing _ => 2 | .released => 3)])

/-- LANE_STATUS changes nothing and gives, in order, the reader part (R50), the waiting slot (R76), the grant and the
recognizer parts (R99), the gate part and the bank part (R122), 113 bytes in all. Where the layout of results is the
model's reading, the order of the four window offsets among it, log entry 11 says so; that the obstruction level shown is
the accepted one is its choice, log entry 27. -/
def Obligations.LaneStatusReads : Prop :=
  ∀ (s : State) (n : Byte) (l : Lane.Index), laneOf n.toNat = some l → s.takes 54#8 = some [n] →
    let x := s.lane l
    let p := s.pacing
    let reader : List (Nat × Nat) :=
      [(1, match x.reader.state with | .offline => 0 | .online => 1), (1, x.reader.failures)] ++
      optRows 1 (x.reader.lastTag.map (fun t => [(1, t)])) ++
      optRows 2 (x.reader.verdict.map (fun v => [(1, v.kind), (1, v.value)])) ++
      optRows 10 (x.reader.lastCredential.map (fun c =>
        [(5, c.serial), (1, match c.media with | .card => 0 | .token => 1), (1, c.quality), (3, c.time)]))
    let waiting := optRows 12 (x.waiting.map (fun w =>
      [(5, w.serial), (1, w.product), (1, w.firstDay), (3, w.arrival), (2, w.age)]))
    let grant := optRows 18 (x.grant.map (fun g =>
      [(5, g.serial), (1, g.product), (1, g.allowance), (1, g.passages),
        (1, match g.state with | .waiting => 0 | .opened => 1 | .draining => 2), (1, oneBit g.committed),
        (3, g.created), (3, g.deadline), (2, g.lifetime.limit - g.lifetime.elapsed)]))
    let recognizer : List (Nat × Nat) :=
      [(1, match x.recognizer with
          | .clear => 0 | .enterF => 1 | .crossF => 2 | .leaveF => 3 | .followF => 4
          | .enterR => 5 | .crossR => 6 | .leaveR => 7 | .followR => 8),
        (1, oneBit x.beamA.accepted), (1, oneBit x.beamB.accepted),
        (1, oneBit (x.beamA.running.isSome || x.beamB.running.isSome)), (1, oneBit x.loiterMark)]
    let gate : List (Nat × Nat) :=
      [(1, modeCode x.mode)] ++
      optRows 1 (match x.mode with
        | .held .openArm => some [(1, 0)]
        | .held .closeArm => some [(1, 1)]
        | .held .freeArm => some [(1, 2)]
        | _ => none) ++
      [(1, match x.gate with | .shut => 0 | .opened => 1 | .closing _ => 2 | .released => 3)] ++
      optRows 2 (match x.gate with | .closing k => some [(2, k.limit - k.elapsed)] | _ => none) ++
      [(1, oneBit x.armClosed), (1, oneBit x.obstruction.accepted),
        (1, oneBit x.faults.obstruction + 2 * oneBit x.faults.stuck),
        (1, match x.settings.fault with | .latched => 0 | .autoClear => 1)] ++
      optRows 2 (match x.rearm with | .timing k => some [(2, k.limit - k.elapsed)] | _ => none) ++
      [(1, match x.rearm with | .rearmed => 1 | _ => 0), (1, match x.settings.pace with | .free => 0 | .paced => 1)] ++
      optRows 2 (x.timer.map (fun k => [(2, k.t)])) ++
      [(1, oneBit x.windowActive), (1, oneBit x.carry), (2, x.effective.openAt), (2, x.effective.closeAt),
        (2, x.settings.pending.openAt), (2, x.settings.pending.closeAt)] ++ settingRows x
    let bank : List (Nat × Nat) :=
      [(1, match p.source with | .external => 0 | .internal => 1), (1, match p.lift with | .stopped => 0 | .running => 1)] ++
      optRows 4 (p.sinceSync.map (fun ms => [(4, ms)])) ++ optRows 2 (p.measured.map (fun ms => [(2, ms)])) ++
      [(2, p.internalPeriod), (2, p.syncLossTime)]
    let results := fields (reader ++ waiting ++ grant ++ recognizer ++ gate ++ bank)
    Answers .laneStatus s s .ok results ∧ results.length = 113

/-- LANE_CONFIG (R120): a lane outside 1 to 8 and a named value that is none of the names are refused with BAD_VALUE; a
changed enable, pace mode or fault mode is refused with LANE_STATE while the lane holds a grant; the refusals change
nothing; a request that names no change takes its given settings, clamped, leaves every other setting and everything
else of the lane as it was, and answers with every setting. -/
def Obligations.LaneConfigTakesSettings : Prop :=
  ∀ (s : State) (n m1 m0 enable pace fault : Byte) (numbers : List Byte), numbers.length = 12 →
    s.takes 52#8 = some (n :: m1 :: m0 :: enable :: pace :: fault :: numbers) →
    let given (i : Nat) : Bool := (256 * m1.toNat + m0.toNat).testBit i
    (¬(1 ≤ n.toNat ∧ n.toNat ≤ 8) ∨ given 0 = true ∧ 1 < enable.toNat ∨ given 1 = true ∧ 1 < pace.toNat ∨
        given 2 = true ∧ 1 < fault.toNat →
      Answers .laneConfig s s .badValue []) ∧
    ∀ (l : Lane.Index) (e p f : Byte), laneOf n.toNat = some l →
      let x := s.lane l
      let value (i : Nat) : Nat := ofBe ((numbers.drop (2 * (i - 3))).take 2)
      let taken (i low high old : Nat) : Nat := if given i then max low (min high (value i)) else old
      e = (if given 0 then enable else if x.mode = .disabled then 0#8 else 1#8) →
      p = (if given 1 then pace else BitVec.ofNat 8 x.settings.pace.code) →
      f = (if given 2 then fault else BitVec.ofNat 8 x.settings.fault.code) →
      e.toNat ≤ 1 → p.toNat ≤ 1 → f.toNat ≤ 1 →
        let same := e = (if x.mode = .disabled then 0#8 else 1#8) ∧ p = BitVec.ofNat 8 x.settings.pace.code ∧
          f = BitVec.ofNat 8 x.settings.fault.code
        (¬same → x.grant.isSome = true → Answers .laneConfig s s .laneState []) ∧
        (same → ∃ t, t = s.setLane l { x with
            settings := { x.settings with
              pending := { openAt := taken 3 0 30000 x.settings.pending.openAt,
                           closeAt := taken 4 0 30000 x.settings.pending.closeAt },
              lifetime := taken 5 2 60 x.settings.lifetime, loiterTime := taken 6 2 30 x.settings.loiterTime,
              closeLimit := taken 7 500 5000 x.settings.closeLimit,
              rearmTime := taken 8 500 10000 x.settings.rearmTime } } ∧
            Answers .laneConfig s t .ok (fields (settingRows (t.lane l))))

/-- What a LANE_CONFIG does to a lane without a grant, whatever numbers and named settings it gives together (R49, R81,
R118, R119, R120). Disabling: its reader context OFFLINE and empty, its loiter timer and lane timer stopped, its marks
clear, its gate commanded close, a HOLD_LEFT record where it was HELD, and its outstanding poll made void. Enabling: AUTO,
a paced lane's timer stopped, the loiter timer started away from CLEAR, the gate commanded close. A change of pace mode
stops the timer and clears the carry mark; from PACED to FREE it clears a re-armed OBSTRUCTION. To AUTO_CLEAR the re-arm
timer of a set OBSTRUCTION starts when the input is inactive; to LATCHED re-arming is given up. The order of the effects is
the model's choice, log entry 25; where PACED to FREE and AUTO_CLEAR to LATCHED meet a re-armed OBSTRUCTION, which comes
first is the free value of log entry 13. That LATCHED to AUTO_CLEAR goes by the input's accepted level is the model's choice,
log entry 30. -/
def Obligations.NamedSettingsChange : Prop :=
  ∀ (s : State) (n m1 m0 enable pace fault : Byte) (numbers : List Byte) (l : Lane.Index) (e : Bool) (p : PaceMode)
    (f : FaultMode), laneOf n.toNat = some l → numbers.length = 12 → (s.lane l).grant = none →
    s.takes 52#8 = some (n :: m1 :: m0 :: enable :: pace :: fault :: numbers) →
    let x := s.lane l
    let given (i : Nat) : Bool := (256 * m1.toNat + m0.toNat).testBit i
    let value (i : Nat) : Nat := ofBe ((numbers.drop (2 * (i - 3))).take 2)
    let taken (i low high old : Nat) : Nat := if given i then max low (min high (value i)) else old
    (if given 0 then enable = (if e then 1#8 else 0#8) else e = true ↔ x.mode ≠ .disabled) →
    (if given 1 then pace = (match p with | .free => 0#8 | .paced => 1#8) else p = x.settings.pace) →
    (if given 2 then fault = (match f with | .latched => 0#8 | .autoClear => 1#8) else f = x.settings.fault) →
      let disables := x.mode ≠ .disabled ∧ e = false
      let enables := x.mode = .disabled ∧ e = true
      let governed (y : Lane) : Lane := { y with gate := y.gateAfter (y.mode.heldCommand.getD .closeArm) }
      let numbered : Lane := { x with
        settings := { x.settings with
          pending := { openAt := taken 3 0 30000 x.settings.pending.openAt,
                       closeAt := taken 4 0 30000 x.settings.pending.closeAt },
          lifetime := taken 5 2 60 x.settings.lifetime, loiterTime := taken 6 2 30 x.settings.loiterTime,
          closeLimit := taken 7 500 5000 x.settings.closeLimit, rearmTime := taken 8 500 10000 x.settings.rearmTime } }
      let enabled : Lane :=
        if disables then governed { numbered with
          mode := .disabled,
          reader := { x.reader with state := .offline, failures := 0, offlineSkip := 0, verdict := none, carried := false },
          loiterTimer := none, loiterMark := false, timer := none, carry := false }
        else if enables then governed { numbered with
          mode := .auto, carry := false,
          timer := (match x.settings.pace with | .paced => none | .free => x.timer),
          loiterTimer := if x.recognizer = .clear then x.loiterTimer
            else some { elapsed := 0, limit := 1000 * numbered.settings.loiterTime } }
        else numbered
      let paced (y : Lane) : Lane :=
        if p = x.settings.pace then y
        else
          let z : Lane := { y with settings := { y.settings with pace := p }, timer := none, carry := false }
          if p = .free ∧ z.rearm = .rearmed then
            let u : Lane := { z with faults := { z.faults with obstruction := false }, rearm := .idle }
            governed (if u.faults.stuck then u else { u with gate := u.gateAfter .closeArm })
          else governed z
      let faulted (y : Lane) : Lane :=
        if f = x.settings.fault then y
        else
          let z : Lane := { y with settings := { y.settings with fault := f } }
          match f with
          | .latched => { z with rearm := .idle }
          | .autoClear =>
            if z.faults.obstruction = true ∧ z.obstruction.accepted = false then
              { z with rearm := .timing { elapsed := 0, limit := z.settings.rearmTime } }
            else z
      let faultFirst := Config.rearmedClearsFirst = false ∧ x.rearm = .rearmed ∧ x.settings.pace = .paced ∧ p = .free ∧
        x.settings.fault = .autoClear ∧ f = .latched
      let y := if faultFirst then paced (faulted enabled) else faulted (paced enabled)
      let clears := ¬faultFirst ∧ x.settings.pace = .paced ∧ p = .free ∧ x.rearm = .rearmed ∧ x.faults.obstruction = true
      let records : List RecordBody :=
        (if disables ∧ x.mode.heldCommand.isSome = true then [.laneEvent l .holdLeft] else []) ++
        (if clears then [.laneEvent l (.faultCleared .obstruction)] else [])
      Answers .laneConfig s
        (records.foldl State.append { s.setLane l y with bus := (if disables then { s.bus with
          poll := s.bus.poll.map (fun q => if q.lane = l then { q with void := true } else q) } else s.bus) })
        .ok (fields (settingRows y))

/-- BANK_CONFIG (R121): a source that is none of the two is refused with BAD_VALUE; otherwise the given numbers are
clamped and taken, a source that is the present one changes nothing, and a sync-loss timer that has reached a new limit
stops the lift (R113). To INTERNAL the sync-loss timer stops, the generator starts, and a STOPPED lift resumes with its
record (R114); to EXTERNAL the generator stops and the sync-loss timer starts; either makes the measured period absent
(R112). That a request with several settings takes the numbers first and compares a new limit last is the model's choice,
log entry 26. -/
def Obligations.BankConfigTakesSettings : Prop :=
  ∀ (s : State) (presence source p1 p0 t1 t0 : Byte), s.takes 53#8 = some [presence, source, p1, p0, t1, t0] →
    let p := s.pacing
    let period := if presence.getLsbD 1 then max 1000 (min 30000 (ofBe [p1, p0])) else p.internalPeriod
    let loss := if presence.getLsbD 2 then max 2 (min 60 (ofBe [t1, t0])) else p.syncLossTime
    let values (source : Nat) : List Byte := fields [(1, source), (2, period), (2, loss)]
    let code := match p.source with | .external => 0 | .internal => 1
    let numbered : Pacing := { p with internalPeriod := period, syncLossTime := loss }
    (presence.getLsbD 0 = true → source ≠ 0#8 → source ≠ 1#8 → Answers .bankConfig s s .badValue []) ∧
    ((presence.getLsbD 0 = true → source.toNat = code) →
      ((presence.getLsbD 2 = true → ∀ ms, p.syncLoss = some ms → ms < 1000 * loss) →
        Answers .bankConfig s { s with pacing := numbered } .ok (values code)) ∧
      (presence.getLsbD 2 = true → ∀ ms, p.syncLoss = some ms → 1000 * loss ≤ ms →
        Answers .bankConfig s (liftStopped { s with pacing := numbered }) .ok (values code))) ∧
    (presence.getLsbD 0 = true → source = 1#8 → p.source = .external →
      Answers .bankConfig s
        { (if p.lift = .stopped then s.append (.liftEvent .running) else s) with pacing := { numbered with
          source := .internal, lift := .running, syncLoss := none, generator := some { elapsed := 0, limit := period },
          sinceEdge := none, measured := none } } .ok
        (values 1)) ∧
    (presence.getLsbD 0 = true → source = 0#8 → p.source = .internal →
      Answers .bankConfig s { s with pacing := { numbered with
        source := .external, syncLoss := some 0, generator := none, sinceEdge := none, measured := none } } .ok
        (values 0))

/-! ## Counters and days -/

/-- COUNTERS_READ gives a lane's counters or the bank's tables with the day they belong to and the clock state, changes
nothing, and refuses any other selector (R130, R143). Where the layout of results is the model's reading, log entry 11
says so. -/
def Obligations.CountersRead : Prop :=
  ∀ (s : State) (n : Byte),
    (s.takes 64#8 = some [n] →
      (n = 0#8 → Answers .countersRead s s .ok
        (s.denials.toList.flatMap (item 2) ++ s.riders.toList.flatMap (item 2) ++ fields (dayRows s.clock))) ∧
      (∀ l, laneOf n.toNat = some l →
        let c := (s.lane l).counts
        Answers .countersRead s s .ok (fields (
          [(2, c.grants), (2, c.completed), (2, c.lapsed), (2, c.riders), (2, c.reverse), (2, c.intrusions),
            (2, c.tailgates), (2, c.denials), (2, c.staff), (2, c.loiters), (2, c.readErrors), (2, c.faults),
            (4, c.ridersSeason), (4, c.intrusionsSeason), (1, oneBit (s.lane l).grant.isSome)] ++ dayRows s.clock))) ∧
      (8 < n.toNat → Answers .countersRead s s .badValue []))

/-- COUNTERS_CLEAR_SEASON gives the season counters of the lane named, or of all eight, lane by lane, and sets them to 0,
touching nothing else; any other value is refused with BAD_VALUE (R131). -/
def Obligations.SeasonCountersCleared : Prop :=
  ∀ (s : State) (n : Byte),
    (s.takes 65#8 = some [n] →
      (8 < n.toNat → Answers .countersClearSeason s s .badValue []) ∧
      (∀ l, laneOf n.toNat = some l → Answers .countersClearSeason s
        (s.setLane l { s.lane l with
          counts := { (s.lane l).counts with ridersSeason := 0, intrusionsSeason := 0 } }) .ok
        (item 4 (s.lane l).counts.ridersSeason ++ item 4 (s.lane l).counts.intrusionsSeason)) ∧
      (n = 0#8 → Answers .countersClearSeason s
        { s with lanes := s.lanes.map (fun x =>
            { x with counts := { x.counts with ridersSeason := 0, intrusionsSeason := 0 } }) } .ok
        (s.lanes.toList.flatMap (fun x => item 4 x.counts.ridersSeason ++ item 4 x.counts.intrusionsSeason))))

/-- DAY_OPEN (R134, R136): a day above 207 is refused with BAD_VALUE, and a day state that is neither NO_DAY nor
DAY_CLOSED of an earlier day with DAY_ORDER; both leave everything as it is and give the day state. An accepted DAY_OPEN
enters OPENING, keeps the former state, sets the clock, clears the daily counters and holds the request queue; the pass
records stand unchanged until the opening completes (R35, R132, R169). At its completion (R35, R138) records whose
window ended before the day are purged, the others' rides today and last passage time are cleared, the day state becomes
DAY_OPEN, DAY_OPENED is appended, and the DAY_OPEN is answered with the day, the time taken, the purge count and the
record count. Where the layout of results is the model's reading, log entry 11 says so. -/
def Obligations.DayOpens : Prop :=
  (∀ (s : State) (day t2 t1 t0 : Byte), s.takes 66#8 = some [day, t2, t1, t0] →
    let d := day.toNat
    let time := min 86399 (ofBe [t2, t1, t0])
    (207 < d → Answers .dayOpen s s .badValue [BitVec.ofNat 8 s.clock.dayState.code]) ∧
    (d ≤ 207 → (∀ e, s.clock.dayState = .dayClosed e → d ≤ e) → s.clock.dayState ≠ .noDay →
      Answers .dayOpen s s .dayOrder [BitVec.ofNat 8 s.clock.dayState.code]) ∧
    (∀ former, d ≤ 207 →
      (s.clock.dayState = .noDay ∧ former = none ∨ ∃ e, s.clock.dayState = .dayClosed e ∧ e < d ∧ former = some e) →
      exec .dayOpen s = .next (State.transmit { s with
        clock := { dayState := .opening d time former, timeOfDay := time, millisecond := 0, isSet := true },
        lanes := s.lanes.map (fun x => { x with counts :=
          { Counts.reset with
            ridersSeason := x.counts.ridersSeason, intrusionsSeason := x.counts.intrusionsSeason } }),
        denials := Vector.replicate 20 0, riders := Vector.replicate 64 0,
        trunk := { s.trunk with queue := setOldest .taken s.trunk.queue } }))) ∧
  ∀ (s : State) (d t : Nat) (former : Option Nat), s.clock.dayState = .opening d t former →
    ∃ kept : List PassRecord,
      (∀ r, r ∈ kept ↔ ∃ q ∈ s.passes, ¬(q.firstDay + q.window < d + 1) ∧
        r = { q with ridesToday := 0, lastPassage := none }) ∧
      kept.length ≤ s.passes.length ∧
      Answers .dayOpenComplete s
        (State.append { s with passes := kept, clock := { s.clock with dayState := .dayOpen d } }
          (.dayOpened d (s.passes.length - kept.length)))
        .ok (item 1 d ++ item 3 t ++ item 2 (s.passes.length - kept.length) ++ item 2 kept.length)

/-- DAY_CLOSE (R95, R139, R140): refused with DAY_ORDER outside DAY_OPEN. In DAY_OPEN every grant ends, counted and recorded
as COMPLETED with GRANT_CLOSED or LAPSED with GRANT_LAPSED by its passages, its record's grant lane cleared; a HOLD_PENDING
lane becomes HELD with HOLD_ENTERED; every waiting slot empties; a HELD lane's command becomes CLOSE and every gate is
commanded close; the day state becomes DAY_CLOSED of the same day; and DAY_SUMMARY gives each lane's five counters and
their sums. The response gives the day and the two counts. All else is as it was. The order of the records is the model's
choice, log entry 14. Stated of states whose HOLD_PENDING lanes hold grants. -/
def Obligations.DayCloses : Prop :=
  ∀ s : State, s.takes 67#8 = some [] →
    ((∀ d, s.clock.dayState ≠ .dayOpen d) → Answers .dayClose s s .dayOrder []) ∧
    (∀ d, s.clock.dayState = .dayOpen d → (∀ l, (s.lane l).mode = .holdPending → (s.lane l).grant.isSome = true) →
      let completes (x : Lane) : Bool := match x.grant with | none => false | some g => decide (1 ≤ g.passages)
      let lapses (x : Lane) : Bool := match x.grant with | none => false | some g => g.passages == 0
      let closed (x : Lane) : Lane := { x with
        grant := none, waiting := none,
        mode := (match x.mode with | .auto => .auto | .disabled => .disabled | _ => .held .closeArm),
        gate := x.gateAfter .closeArm,
        timer := (if x.grant.isSome = true ∧ x.settings.pace = .free then none else x.timer),
        counts := { x.counts with
          completed := if completes x then min (x.counts.completed + 1) 65535 else x.counts.completed,
          lapsed := if lapses x then min (x.counts.lapsed + 1) 65535 else x.counts.lapsed } }
      let row (x : Lane) : SummaryRow :=
        { grants := x.counts.grants, completed := x.counts.completed, lapsed := x.counts.lapsed,
          riders := x.counts.riders, intrusions := x.counts.intrusions }
      let rows := s.lanes.toList.map (fun x => row (closed x))
      let ends (l : Lane.Index) : List RecordBody := match (s.lane l).grant with
        | none => []
        | some g => if 1 ≤ g.passages then [.grantClosed g.serial l g.passages] else [.grantLapsed g.serial l]
      let records : List RecordBody :=
        allLanes.flatMap ends ++
        (allLanes.filter (fun l => (s.lane l).mode == .holdPending)).map (fun l => .laneEvent l .holdEntered) ++
        [.daySummary d rows
          { grants := (rows.map SummaryRow.grants).sum, completed := (rows.map SummaryRow.completed).sum,
            lapsed := (rows.map SummaryRow.lapsed).sum, riders := (rows.map SummaryRow.riders).sum,
            intrusions := (rows.map SummaryRow.intrusions).sum }]
      Answers .dayClose s
        (records.foldl State.append { s with
          lanes := s.lanes.map closed, clock := { s.clock with dayState := .dayClosed d },
          passes := s.passes.map (fun r =>
            if s.lanes.toList.any (fun x => x.grant.any (fun g => g.serial == r.serial)) then { r with grantLane := none }
            else r) })
        .ok (fields [(1, d), (1, s.lanes.toList.countP completes), (1, s.lanes.toList.countP lapses)]))

/-- TIME_SET takes the time of day, clamped to 86,399, in every day state: a fresh second begins, the clock is SET,
nothing else changes, and the response gives the time taken and the clock state before (R135). CLOCK_SECOND: the rest of
the second in progress passes, and the time of day advances by 1, with 0 after 86,399; the day state and the clock state
stay (R133). That the rest of the second passes for every timer is the model's choice, log entry 3. -/
def Obligations.TimeOfDaySetAndAdvanced : Prop :=
  (∀ (s : State) (t2 t1 t0 : Byte), s.takes 68#8 = some [t2, t1, t0] →
    let t := min (65536 * t2.toNat + 256 * t1.toNat + t0.toNat) 86399
    Answers .timeSet s { s with clock := { s.clock with timeOfDay := t, millisecond := 0, isSet := true } } .ok
      (fields [(3, t), (1, oneBit s.clock.isSet)])) ∧
  ∀ s : State, s.clock.timeOfDay < 86400 → s.clock.millisecond ≤ 1000 →
    exec .clockSecond s = .next (State.transmit { s.elapse (1000 - s.clock.millisecond) with clock := { s.clock with
      timeOfDay := if s.clock.timeOfDay = 86399 then 0 else s.clock.timeOfDay + 1, millisecond := 0 } })

/-! ## Refunds -/

/-- The inputs, the classes, the entitlement and its allocation, and the gross (R149 to R154): P is the price paid where the
record has one and the entry's price otherwise, A the entry's A brought into 1 to the record's W; over the unused days of the
record's window, closed days count whatever the reference day, past partial days as partial, days to come as future; E
is A - U or 0; the entitlement goes to closed, then partial, then future days, and no day is credited beyond it; the
gross is the price times the weight over 100 A, rounded down. -/
def Obligations.RefundIsAllocatedInOrder : Prop :=
  ∀ (r : PassRecord) (p : Product) (days : Memory) (t : Nat),
    let b := computeRefund r p days t
    let unused := (List.range r.window).filter (fun i => decide (r.firstDay + i ∉ r.usedDays))
    let status (i : Nat) := dayStatus days (r.firstDay + i)
    b.referenceDay = t ∧ b.window = r.window ∧ b.used = r.usedDays.length ∧
    (∀ v, r.pricePaid = some v → b.price = v ∧ b.fromRecord = true) ∧
    (r.pricePaid = none → b.price = p.price ∧ b.fromRecord = false) ∧
    (1 ≤ r.window → b.allowed = (if p.allowed < 1 then 1 else if r.window < p.allowed then r.window else p.allowed)) ∧
    b.closed = unused.countP (fun i => status i == .isClosed) ∧
    b.partialDays = unused.countP (fun i => status i == .isPartial && decide (r.firstDay + i < t)) ∧
    b.future = unused.countP (fun i => status i != .isClosed && decide (t ≤ r.firstDay + i)) ∧
    b.entitlement = (if b.used < b.allowed then b.allowed - b.used else 0) ∧
    b.creditClosed = min b.entitlement b.closed ∧
    b.creditPartial = min (b.entitlement - b.creditClosed) b.partialDays ∧
    b.creditFuture = min (b.entitlement - b.creditClosed - b.creditPartial) b.future ∧
    b.creditClosed + b.creditPartial + b.creditFuture = min b.entitlement (b.closed + b.partialDays + b.future) ∧
    b.weight = 100 * b.creditClosed + p.partialRate * b.creditPartial + p.futureRate * b.creditFuture ∧
    b.gross = b.price * b.weight / (100 * b.allowed)

/-- The fee is deducted once (R155), and what is left is cut down to the rounding step (R156). -/
def Obligations.FeeAndRounding : Prop :=
  ∀ (r : PassRecord) (p : Product) (m days : Memory) (t code : Nat), lookupProduct m code = some p →
    let b := computeRefund r p days t
    p.fee ≤ 99999 ∧ b.afterFee = (if p.fee < b.gross then b.gross - p.fee else 0) ∧
    (b.gross = p.fee → b.afterFee = 0) ∧
    (p.step = 1 ∨ p.step = 5 ∨ p.step = 10 ∨ p.step = 25 ∨ p.step = 50 ∨ p.step = 100) ∧
    (productField m code 20 2 ∈ [1, 5, 10, 25, 50, 100] → p.step = productField m code 20 2) ∧
    (productField m code 20 2 ∉ [1, 5, 10, 25, 50, 100] → p.step = 1) ∧
    b.rounded = b.afterFee / p.step * p.step ∧ p.step ∣ b.rounded ∧ b.rounded ≤ b.afterFee ∧
    b.afterFee < b.rounded + p.step ∧ (p.step = 1 → b.rounded = b.afterFee)

/-- The bounds of a refund (R154, R157): it is N2 or 0; when not 0 it is a multiple of the step, at least the minimum, at
most the gross, and the gross is at most the price, so that it meets the refund test of R30. -/
def Obligations.RefundsAreBounded : Prop :=
  ∀ (r : PassRecord) (p : Product) (m days : Memory) (t code : Nat), lookupProduct m code = some p →
    p.cls ≠ .season → 1 ≤ r.window →
    let b := computeRefund r p days t
    b.refund = (if p.minimum ≤ b.rounded then b.rounded else 0) ∧ 1 ≤ b.allowed ∧ b.allowed ≤ 14 ∧
    b.allowed ≤ r.window ∧ b.weight ≤ 100 * b.allowed ∧ b.gross ≤ b.price ∧ b.refund ≤ b.gross ∧
    (1 ≤ b.refund → p.step ∣ b.refund ∧ p.minimum ≤ b.refund)

/-- REFUND_QUOTE and REFUND_COMMIT (R144 to R148): the refusals in their order, PASS_IN_GRANT and NOTHING_TO_REFUND for a
commit alone; a quote changes nothing; a commit of 1 cent or more marks the record and appends one REFUND, with one amount
in the record, the REFUND record and the response. A breakdown gives the inputs, the stages and the record's grant lane, in
the order of R147 at the widths of R187. -/
def Obligations.RefundRequestsAnswered : Prop :=
  ∀ (s : State) (s4 s3 s2 s1 s0 : Byte),
    let serial := ofBe [s4, s3, s2, s1, s0]
    let quoted := s.takes 80#8 = some [s4, s3, s2, s1, s0]
    let committed := s.takes 81#8 = some [s4, s3, s2, s1, s0]
    let refused (result : Result) (results : List Byte) : Prop :=
      (quoted → Answers .refundQuote s s result results) ∧ (committed → Answers .refundCommit s s result results)
    let shown (b : Breakdown) (r : PassRecord) : List Byte := fields (
      [(1, b.referenceDay), (3, b.price), (1, oneBit b.fromRecord), (1, b.window), (1, b.allowed), (1, b.used),
        (1, b.closed), (1, b.partialDays), (1, b.future), (1, b.entitlement), (1, b.creditClosed), (1, b.creditPartial),
        (1, b.creditFuture), (2, b.weight), (3, b.gross), (3, b.afterFee), (3, b.rounded), (3, b.refund)] ++
      optRows 1 (r.grantLane.map (fun l => [(1, laneNumber l)])))
    (serial = 0 ∨ findPass s.passes serial = none → refused .notFound []) ∧
    ∀ r, 1 ≤ serial → findPass s.passes serial = some r →
      (lookupProduct s.products.active r.product = none → refused .unknownProduct (item 1 r.product)) ∧
      ∀ p, lookupProduct s.products.active r.product = some p →
        (p.refundable = false ∨ p.cls = .season →
          refused .notRefundable (item 1 r.product ++ be 1 p.cls.code)) ∧
        (p.refundable = true → p.cls ≠ .season →
          (∀ f, r.refund = some f → refused .alreadyRefunded (item 3 f.amount ++ item 1 f.referenceDay)) ∧
          (r.refund = none →
            (∀ l, r.grantLane = some l → committed →
              Answers .refundCommit s s .passInGrant (be 1 (laneNumber l))) ∧
            (s.clock.dayState = .noDay →
              (quoted → Answers .refundQuote s s .dayNotSet []) ∧
              (committed → r.grantLane = none → Answers .refundCommit s s .dayNotSet [])) ∧
            (∀ d t, (s.clock.dayState = .dayOpen d ∧ t = d ∨ s.clock.dayState = .dayClosed d ∧ t = d + 1) →
              let b := computeRefund r p s.days.active t
              (quoted → Answers .refundQuote s s .ok (shown b r)) ∧
              (committed → r.grantLane = none →
                (b.refund = 0 → Answers .refundCommit s s .nothingToRefund (shown b r)) ∧
                (1 ≤ b.refund → Answers .refundCommit s
                  (State.append
                    { s with passes := s.passes.map (fun q => if q.serial = serial
                        then { q with refund := some { amount := b.refund, referenceDay := t } } else q) }
                    (.refund serial b.refund t b.creditClosed b.creditPartial b.creditFuture))
                  .ok (shown b r))))))

/-! ## Usage reports -/

/-- An append (R178, R180): below 256 records the record joins at the tail with the day, time and clock state of the
moment and the dwell timer restarts, reaching 192 raising REPORT_BACKLOG; at 256 the record is lost, the withheld count
grows up to 65,535 and REPORT_OVERFLOW is raised; raising a cause makes a QUIET attention PENDING (R173). -/
def Obligations.RecordsAppended : Prop :=
  ∀ (s : State) (body : RecordBody),
    let q := s.reports
    let r : UsageRecord :=
      { day := s.clock.dayState.today, time := s.clock.timeOfDay, isSet := s.clock.isSet, body := body }
    let joined : State := { s with reports := { q with
      records := q.records ++ [r], dwell := some { elapsed := 0, limit := q.dwellTime } } }
    let raised (t : State) (causes : CauseSet) : State := { t with trunk := { t.trunk with
      causes := causes,
      attention := if t.trunk.attention = .quiet then .pending else t.trunk.attention } }
    (q.records.length < 256 → q.records.length ≠ 191 → s.append body = joined) ∧
    (q.records.length = 191 → s.append body = raised joined { s.trunk.causes with reportBacklog := true }) ∧
    (256 ≤ q.records.length → s.append body =
      raised { s with reports := { q with withheld := min (q.withheld + 1) 65535 } }
        { s.trunk.causes with reportOverflow := true })

/-- The beginning of a batch (R181, R182): the oldest records leave, at most 32 and no more than fit in 1,024 bytes with
the header, and as many as fit; the header counts them, carries the withheld count and the number left; the withheld
count becomes 0, the dwell mark clears, the dwell timer restarts, and the send count is the tag. -/
def Obligations.BatchesTakeTheOldest : Prop :=
  ∀ s : State, ∃ n,
    let q := s.reports
    let size (k : Nat) : Nat := 5 + ((q.records.take k).flatMap UsageRecord.bytes).length
    n ≤ 32 ∧ n ≤ q.records.length ∧ (n = 0 ∨ size n ≤ 1024) ∧
    (n < 32 → n < q.records.length → 1024 < size (n + 1)) ∧
    s.beginBatch = { s with
      reports := { q with
        records := q.records.drop n, withheld := 0, dwell := some { elapsed := 0, limit := q.dwellTime },
        dwellMark := false },
      trunk := { s.trunk with
        sending := some { source := .batch, kind := 3#8, tag := BitVec.ofNat 8 s.trunk.sendCount,
                          payload := be 1 n ++ item 2 q.withheld ++ item 2 (q.records.length - n) ++
                            (q.records.take n).flatMap UsageRecord.bytes },
        sendCount := (s.trunk.sendCount + 1) % 256 } }

/-- REPORT_CONFIG takes a trigger level as the nearest member of its set below, a dwell time clamped into 50 to 5,000
ms, leaves what is not given and the running dwell timer, and answers with the values and the queue's state (R184). The
running out of the dwell timer stops it and sets the dwell mark over a queue that holds records (R181). That the rest of
the dwell time passes for every timer at its command is the model's choice, log entry 3. -/
def Obligations.ReportSettingsAndDwell : Prop :=
  ∀ s : State,
    (∀ presence r1 r0 d1 d0 : Byte, s.takes 96#8 = some [presence, r1, r0, d1, d0] →
      let v := 256 * r1.toNat + r0.toNat
      let trigger := if presence.getLsbD 0
        then (if v < 4 then 1 else if v < 8 then 4 else if v < 16 then 8 else if v < 32 then 16 else 32)
        else s.reports.trigger
      let dwell := if presence.getLsbD 1 then max 50 (min 5000 (256 * d1.toNat + d0.toNat)) else s.reports.dwellTime
      Answers .reportConfig s { s with reports := { s.reports with trigger := trigger, dwellTime := dwell } } .ok
        (item 2 trigger ++ item 2 dwell ++ [if s.reports.paused then 1#8 else 0#8] ++
          item 2 s.reports.records.length ++ item 2 s.reports.withheld ++
          [if s.reports.dwellMark then 1#8 else 0#8])) ∧
    ∀ k, s.reports.dwell = some k →
      let u := s.elapse (k.limit - k.elapsed)
      exec .dwellExpiry s = .next (State.transmit { u with reports := { u.reports with
        dwell := none, dwellMark := if u.reports.records = [] then u.reports.dwellMark else true } })

/-! ## The lane bus -/

/-- A round (R40, R41): it begins 10 ms after the one before it and visits the lanes in order; the first lane that is
not DISABLED and whose head is ONLINE, or whose offline skip is 0, is polled, the poll carrying its waiting verdict and
its last tag, its carried mark standing exactly when there is a verdict; the OFFLINE lanes passed by have their skip
lowered by 1, and no other lane changes. That the time up to the round passes at its command is the model's choice, log
entry 3. -/
def Obligations.RoundsPollTheHeads : Prop :=
  let due (x : Lane) : Prop := x.mode ≠ .disabled ∧ (x.reader.state = .online ∨ x.reader.offlineSkip = 0)
  let passed (x : Lane) : Lane := if x.mode = .disabled then x
    else { x with reader := { x.reader with offlineSkip := x.reader.offlineSkip - 1 } }
  (∀ s : State, s.bus.poll = none → ∃ u : State,
    u = s.elapse (match s.bus.sinceRound with | none => 0 | some ms => 10 - ms) ∧
    exec .roundStart s = .next (State.transmit
      (State.visit allLanes { u with bus := { u.bus with sinceRound := some 0 } }))) ∧
  (∀ (u : State) (before after : List Lane.Index) (l : Lane.Index), (before ++ l :: after).Nodup →
    (∀ k ∈ before, ¬due (u.lane k)) → due (u.lane l) → ∃ v : State,
      State.visit (before ++ l :: after) u = v ∧ v = { u with lanes := v.lanes, bus := v.bus } ∧
      v.bus = { u.bus with poll := some { lane := l, verdict := (u.lane l).reader.verdict,
                                          ackTag := (u.lane l).reader.lastTag, void := false, elapsed := 0 } } ∧
      v.lane l = { u.lane l with reader := { (u.lane l).reader with carried := (u.lane l).reader.verdict.isSome } } ∧
      (∀ k ∈ before, v.lane k = passed (u.lane k)) ∧ ∀ k, k ∉ before → k ≠ l → v.lane k = u.lane k) ∧
  ∀ (u : State) (visited : List Lane.Index), visited.Nodup → (∀ k ∈ visited, ¬due (u.lane k)) → ∃ v : State,
    State.visit visited u = v ∧ v = { u with lanes := v.lanes } ∧
    (∀ k ∈ visited, v.lane k = passed (u.lane k)) ∧ ∀ k, k ∉ visited → v.lane k = u.lane k

/-- A CREDENTIAL reply as the layout gives it is judged good, with its credential, by the poll of its own lane, and fails
that of every other lane; an IDLE reply likewise (R42, R45, R188). -/
def Obligations.RepliesAreJudgedByTheirLane : Prop :=
  ∀ (l k : Lane.Index) (c : Credential), c.tag ≤ 15 → 1 ≤ c.serial → c.serial < 2 ^ 40 → c.product < 256 →
    c.firstDay ≤ 207 → c.quality ≤ 3 →
      judgeReply k (credentialReply l c) = (if k = l then some (.credential c) else none) ∧
      judgeReply k (idleReply l) = (if k = l then some .idle else none) ∧
      (credentialReply l c).length = 15 ∧ (idleReply l).length = 5

/-- The end of an exchange (R40, R42, R43, R44, R46): after a good reply within 3 ms the failures are 0, the context
ONLINE, a carried verdict delivered and READER_BACK appended where it was OFFLINE; a new credential is recorded and
delivered to admission, a repeated one is not, nor is anything by an IDLE or HEALTH reply; after a timeout and after a
reply that fails READ_ERRORS and the failures grow, the third making an ONLINE context OFFLINE with READER_LOST, its
verdict discarded, and its lane added to the cause; then the next poll of the round begins. A poll whose lane was disabled
meanwhile ends without effect on the context (R49). With no poll outstanding nothing happens (R51). That the rest of the 3
ms passes at POLL_TIMEOUT is the model's choice, log entry 3; that bytes before a sync byte are no part of a reply, and
bytes without one no reply, log entry 18; that a reply after the 3 ms fails its poll at its own command, log entry 28. -/
def Obligations.ExchangesEnd : Prop :=
  (∀ (s : State) (bytes : List Byte), (s.bus.poll = none ∨ ∀ b ∈ bytes, b ≠ syncByte) →
    exec (.replyReceived bytes) s = .next s ∧ (s.bus.poll = none → exec .pollTimeout s = .next s)) ∧
  (∀ (s : State) (p : Poll), s.bus.poll = some p → p.void = true →
    let rest (t : State) : Host.Outcome State Fault Refusal := .next (State.transmit (State.visit (lanesAfter p.lane) t))
    let free : State := { s with bus := { s.bus with poll := none } }
    (∀ bytes, (∃ b ∈ bytes, b = syncByte) → exec (.replyReceived bytes) s = rest free) ∧
    exec .pollTimeout s = rest (free.elapse (3 - p.elapsed))) ∧
  ∀ (s : State) (p : Poll), s.bus.poll = some p → p.void = false →
    let l := p.lane
    let x := s.lane l
    let rest (t : State) : Host.Outcome State Fault Refusal := .next (State.transmit (State.visit (lanesAfter l) t))
    let good : ReaderContext := { x.reader with
      failures := 0, state := .online, carried := false,
      offlineSkip := if x.reader.state = .offline then 0 else x.reader.offlineSkip,
      verdict := if p.verdict.isSome = true ∧ x.reader.carried = true then none else x.reader.verdict }
    let back (t : State) : State := if x.reader.state = .offline then t.append (.laneEvent l .readerBack) else t
    let free : State := { s with bus := { s.bus with poll := none } }
    let idle : State := back (free.setLane l { x with reader := good })
    (p.elapsed ≤ 3 → exec (.replyReceived (idleReply l)) s = rest idle) ∧
    (∀ c : Credential, p.elapsed ≤ 3 → c.tag ≤ 15 → 1 ≤ c.serial → c.serial < 2 ^ 40 → c.product < 256 → c.firstDay ≤ 207 →
      c.quality ≤ 3 →
      (x.reader.lastTag = some c.tag → exec (.replyReceived (credentialReply l c)) s = rest idle) ∧
      (x.reader.lastTag ≠ some c.tag → exec (.replyReceived (credentialReply l c)) s = rest
        (State.arrive
          (idle.setLane l { x with reader := { good with
            lastTag := some c.tag,
            lastCredential := some { serial := c.serial, media := c.media, quality := c.quality,
                                     time := s.clock.timeOfDay } } })
          l { serial := c.serial, product := c.product, firstDay := c.firstDay }))) ∧
    let failed (u : State) : State :=
      let y := u.lane l
      let counted : Counts := { y.counts with readErrors := min (y.counts.readErrors + 1) 65535 }
      if y.reader.state = .offline then
        u.setLane l { y with
          counts := counted,
          reader := { y.reader with failures := min (y.reader.failures + 1) 3, offlineSkip := 7, carried := false } }
      else if y.reader.failures < 2 then
        u.setLane l { y with
          counts := counted,
          reader := { y.reader with failures := y.reader.failures + 1, carried := false } }
      else State.raise (State.append
        (u.setLane l { y with
          counts := counted,
          reader := { y.reader with state := .offline, failures := 3, offlineSkip := 7, verdict := none,
                                    carried := false } })
        (.laneEvent l .readerLost)) (fun k => { k with readerLost := k.readerLost ||| laneBit l })
    exec .pollTimeout s = rest (failed (free.elapse (3 - p.elapsed))) ∧
    ∀ bytes, (∃ b ∈ bytes, b = syncByte) →
      (3 < p.elapsed ∨ judgeReply l (bytes.dropWhile (fun b => b != syncByte)) = none →
        exec (.replyReceived bytes) s = rest (failed free)) ∧
      (p.elapsed ≤ 3 → judgeReply l (bytes.dropWhile (fun b => b != syncByte)) = some .health →
        exec (.replyReceived bytes) s = rest idle)

/-! ## Admission -/

/-- The decision applies the checks in the order of R58: it denies with the reason of the first that fails, and grants,
with the record or the provisional subject and its product, exactly when none fails (R58 to R68). -/
def Obligations.DecisionFollowsTheChecks : Prop :=
  ∀ (s : State) (l : Lane.Index) (tap : Tap),
    (∀ reason, s.decision l tap = .deny reason ↔
      ((admissionChecks s l tap).find? Prod.snd).map Prod.fst = some reason) ∧
    ((∃ sub p, s.decision l tap = .grant sub p) ↔ ∀ c ∈ admissionChecks s l tap, c.2 = false) ∧
    ∀ sub p, s.decision l tap = .grant sub p →
      lookupProduct s.products.active sub.record.product = some p ∧
      (match s.lookupPass tap.serial with
        | some r => sub = { record := r, provisional := false }
        | none => sub.provisional = true ∧
          sub.record = { serial := tap.serial, product := tap.product, firstDay := tap.firstDay, window := p.window,
                         pricePaid := none, usedDays := [], ridesToday := 0, lastPassage := none, refund := none,
                         grantLane := none, origin := .admitted })

/-- An arrival by the lane's mode and slot (R54, R55, R56): denied LANE_HELD in HOLD_PENDING and HELD; DUP for the
serial of the lane's own grant; WAIT, with the credential placed in the waiting slot at age 0, behind another's; decided
when the slot is empty. A verdict handed becomes the waiting verdict of an ONLINE context and is discarded by an OFFLINE
one (R47). -/
def Obligations.ArrivalsByModeAndSlot : Prop :=
  ∀ (s : State) (l : Lane.Index) (tap : Tap),
    let x := s.lane l
    let handed (v : Verdict) : ReaderContext :=
      if x.reader.state = .online then { x.reader with verdict := some v, carried := false } else x.reader
    (x.mode = .holdPending ∨ (∃ c, x.mode = .held c) → s.arrive l tap = s.deny l .laneHeld) ∧
    (∀ g, x.mode = .auto → x.grant = some g → g.serial = tap.serial →
      s.arrive l tap = s.setLane l { x with reader := handed .dup }) ∧
    (∀ g, x.mode = .auto → x.grant = some g → g.serial ≠ tap.serial →
      s.arrive l tap = s.setLane l { x with
        reader := handed .wait,
        waiting := some { serial := tap.serial, product := tap.product, firstDay := tap.firstDay,
                          arrival := s.clock.timeOfDay, age := 0 } }) ∧
    (∀ sub p, x.mode = .auto → x.grant = none → s.decision l tap = .grant sub p →
      s.arrive l tap = s.grantAt l sub p) ∧
    (∀ reason, x.mode = .auto → x.grant = none → s.decision l tap = .deny reason →
      s.arrive l tap = (if reason = .blocked then s.append (.hotHit tap.serial l) else s).deny l reason)

/-- What a denial and a grant do (R69, R70, R71, R24, R108): a denial counts in the lane's DENIALS and the bank's entry
of its reason and hands its verdict; a grant locks its record, or creates it with a PASS_CREATED record, is placed in
the slot with the fields of R70, counts in GRANTS, hands its verdict, takes the pending window into effect on a FREE
lane, and has the gate derived; a stale waiting credential is dropped with RETAP, another is decided (R73). -/
def Obligations.GrantsAndDenials : Prop :=
  ∀ (s : State) (l : Lane.Index),
    let x := s.lane l
    let handed (v : Verdict) : ReaderContext :=
      if x.reader.state = .online then { x.reader with verdict := some v, carried := false } else x.reader
    (∀ reason : DenialReason, ∃ v : Vector Nat 20,
      s.deny l reason = { s.setLane l { x with
          counts := { x.counts with denials := min (x.counts.denials + 1) 65535 }, reader := handed (.deny reason) } with
        denials := v } ∧
      ∀ i : Fin 20, v[i] = if i.val + 1 = reason.number then min (s.denials[i] + 1) 65535 else s.denials[i]) ∧
    (∀ (sub : Subject) (p : Product),
      let g : Grant :=
        { serial := sub.record.serial, product := sub.record.product, allowance := p.riders, passages := 0,
          state := .waiting, committed := false, created := s.clock.timeOfDay,
          deadline := (s.clock.timeOfDay + x.settings.lifetime) % 86400,
          lifetime := { elapsed := 0, limit := 1000 * x.settings.lifetime } }
      let placed : Lane := { x with
        grant := some g, counts := { x.counts with grants := min (x.counts.grants + 1) 65535 },
        reader := handed (.grant p.riders),
        effective := (match x.settings.pace with | .free => x.settings.pending | .paced => x.effective),
        timer := (match x.settings.pace with
          | .free => some { t := 0, openReached := x.settings.pending.openAt == 0,
                            closeReached := x.settings.pending.closeAt == 0 }
          | .paced => x.timer) }
      (sub.provisional = false → s.grantAt l sub p = State.derive
        { s.setLane l placed with passes := s.passes.map (fun r =>
            if r.serial = sub.record.serial then { r with grantLane := some l } else r) } l) ∧
      (sub.provisional = true → s.grantAt l sub p = State.derive
        (State.append { s.setLane l placed with
            passes := putPass s.passes { sub.record with grantLane := some l } }
          (.passCreated sub.record.serial sub.record.product sub.record.firstDay)) l)) ∧
    (x.waiting = none → s.takeUp l = s) ∧
    (∀ w, x.waiting = some w →
      (5000 < w.age → s.takeUp l = s.setLane l { x with waiting := none, reader := handed .retap }) ∧
      (w.age ≤ 5000 → s.takeUp l = State.decideTap (s.setLane l { x with waiting := none }) l
        { serial := w.serial, product := w.product, firstDay := w.firstDay }))

/-! ## Passages and grants -/

/-- The beam inputs and the loiter timer (R77, R78, R81): a raw change away from the accepted level starts a fresh
debounce, back to it ends it; after 50 ms the level is accepted and the recognizer moves to the successor that the table of
R78 gives, a passage arising exactly at the four moves that end one, and its state agreeing with the levels; the loiter timer starts at the loiter time when CLEAR is left and restarts at a passage, which
clears the mark, and stops with the mark cleared at the return to CLEAR, and it runs on no DISABLED lane; LOITER counts
and is recorded once per stay away from CLEAR. That the rest of a debounce or of the loiter time passes at its command is
the model's choice, log entry 3. -/
def Obligations.BeamsMoveTheRecognizer : Prop :=
  (∀ row ∈ ([(.clear, (.enterF, none), (.enterR, none)),
      (.enterF, (.clear, none), (.crossF, none)),
      (.crossF, (.leaveF, none), (.enterF, none)),
      (.leaveF, (.followF, none), (.clear, some .forward)),
      (.followF, (.leaveF, none), (.enterF, some .forward)),
      (.enterR, (.crossR, none), (.clear, none)),
      (.crossR, (.enterR, none), (.leaveR, none)),
      (.leaveR, (.clear, some .reverse), (.followR, none)),
      (.followR, (.enterR, some .reverse), (.leaveR, none))] :
      List (Recognizer × (Recognizer × Option Direction) × (Recognizer × Option Direction))),
    row.1.move .a = row.2.1 ∧ row.1.move .b = row.2.2) ∧
  (∀ (r : Recognizer) (beam : Beam),
    ((r.move beam).2 = some .forward ↔ (r = .leaveF ∨ r = .followF) ∧ beam = .b) ∧
    ((r.move beam).2 = some .reverse ↔ (r = .leaveR ∨ r = .followR) ∧ beam = .a) ∧
    (r.move beam).1.levels = (match beam with
      | .a => (!r.levels.1, r.levels.2)
      | .b => (r.levels.1, !r.levels.2))) ∧
  ∀ (s : State) (n : Nat) (l : Lane.Index), laneOf n = some l →
    let x := s.lane l
    (∀ (beam : Beam) (level : Bool),
      let d := x.beam beam
      exec (.beamInputChange n beam level) s = .next
        (if level = d.raw then s else State.transmit (s.setLane l (x.setBeam beam
          { raw := level, accepted := d.accepted, running := if level = d.accepted then none else some 0 })))) ∧
    (∀ (beam : Beam) (ms : Nat), (x.beam beam).running = some ms →
      let t := s.elapse (50 - ms)
      let y := t.lane l
      let d := x.beam beam
      let next := (y.recognizer.move beam).1
      let way := (y.recognizer.move beam).2
      let fresh : Option Timer :=
        if y.mode = .disabled then none else some { elapsed := 0, limit := 1000 * y.settings.loiterTime }
      let z : Lane := { y.setBeam beam { raw := d.raw, accepted := d.raw, running := none } with
        recognizer := next,
        loiterTimer := (if next = .clear then none
          else if way.isSome = true ∨ y.recognizer = .clear then fresh else y.loiterTimer),
        loiterMark := (if next = .clear ∨ way.isSome = true then false else y.loiterMark) }
      exec (.beamChangeAccepted n beam) s = .next (State.transmit
        (match way with
          | none => t.setLane l z
          | some d => State.passage (t.setLane l z) l d))) ∧
    ∀ k, x.loiterTimer = some k →
      let t := s.elapse (k.limit - k.elapsed)
      let y := t.lane l
      (x.loiterMark = true → exec (.loiter n) s =
        .next (State.transmit (t.setLane l { y with loiterTimer := none, loiterMark := true }))) ∧
      (x.loiterMark = false → exec (.loiter n) s = .next (State.transmit (State.append
        (t.setLane l { y with
          loiterTimer := none, loiterMark := true,
          counts := { y.counts with loiters := min (y.counts.loiters + 1) 65535 } })
        (.laneEvent l .loiter))))

/-- What a passage does (R25, R26, R80, R85 to R91): on a WAITING or OPEN grant it is counted, with the day commit at
the grant's first and the passage note at each, and DRAINING at the allowance; on a DRAINING one it is a tailgate; with
no grant an intrusion; in reverse it is taken back from a grant that has some; in HELD it is STAFF; at a DISABLED lane
nothing. -/
def Obligations.PassagesCounted : Prop :=
  (∀ (r : PassRecord) (d : Nat),
    r.commit d = { r with usedDays := (r.commit d).usedDays, ridesToday := min (r.ridesToday + 1) 255 } ∧
    ∀ e, e ∈ (r.commit d).usedDays ↔ e ∈ r.usedDays ∨ (e = d ∧ r.firstDay ≤ d ∧ d < r.firstDay + r.window)) ∧
  ∀ (s : State) (l : Lane.Index),
    let x := s.lane l
    let c := x.counts
    (∀ k way, x.mode = .held k →
      s.passage l way = s.setLane l { x with counts := { c with staff := min (c.staff + 1) 65535 } }) ∧
    (∀ way, x.mode = .disabled → s.passage l way = s) ∧
    (x.mode = .auto ∨ x.mode = .holdPending →
      (x.grant = none →
        s.passage l .forward = State.append
          (s.setLane l { x with counts := { c with
            intrusions := min (c.intrusions + 1) 65535,
            intrusionsSeason := (c.intrusionsSeason + 1) % 4294967296 } }) (.intrusion l) ∧
        s.passage l .reverse = s.setLane l { x with counts := { c with reverse := min (c.reverse + 1) 65535 } }) ∧
      (∀ g, x.grant = some g → g.state = .draining →
        s.passage l .forward = State.append
          (s.setLane l { x with counts := { c with tailgates := min (c.tailgates + 1) 65535 } })
          (.tailgate l g.serial)) ∧
      (∀ g d, x.grant = some g → g.state ≠ .draining → s.clock.dayState.today = some d → ∃ v : Vector Nat 64,
        (∀ i : Fin 64, v[i] = if i.val = g.product then min (s.riders[i] + 1) 65535 else s.riders[i]) ∧
        let full := g.passages + 1 = g.allowance
        let t : State :=
          { s.setLane l { x with
              counts := { c with riders := min (c.riders + 1) 65535,
                                 ridersSeason := (c.ridersSeason + 1) % 4294967296 },
              grant := some { g with
                passages := g.passages + 1, committed := true, state := if full then .draining else g.state } } with
            riders := v,
            passes := s.passes.map (fun r => if r.serial = g.serial
              then { (if g.committed then r else r.commit d) with lastPassage := some s.clock.timeOfDay } else r) }
        s.passage l .forward = if full then t.rederive l else t) ∧
      (∀ g, x.grant = some g →
        let t := s.setLane l { x with counts := { c with reverse := min (c.reverse + 1) 65535 } }
        (g.passages = 0 → s.passage l .reverse = t) ∧
        (1 ≤ g.passages → s.passage l .reverse =
          let u := t.setLane l { t.lane l with grant := some { g with
            passages := g.passages - 1, state := if g.state = .draining then .waiting else g.state } }
          if g.state = .draining then u.rederive l else u)))

/-- The end of a grant at its deadline (R92, R93, R94, R102): it completes with passages 1 or more and lapses with 0,
counted and recorded; its record's grant lane clears, its slot empties, a FREE lane's timer stops, a HOLD_PENDING lane
becomes HELD with HOLD_ENTERED, the gate is commanded close, and the waiting credential is taken up (R72, R73). A DRAINING
grant whose gate has become SHUT completes likewise, and no other grant ends so. That the rest of the lifetime passes for
every timer at GRANT_DEADLINE is the model's choice, log entry 3. -/
def Obligations.GrantsEnd : Prop :=
  ∀ (s : State) (n : Nat) (l : Lane.Index) (g : Grant), laneOf n = some l → (s.lane l).grant = some g →
    let ended (u : State) (completes : Bool) : State :=
      let x := u.lane l
      let pending := x.mode = .holdPending
      let y : Lane := { x with
        grant := none, mode := (if pending then .held .closeArm else x.mode),
        gate := x.gateAfter (match x.mode with | .held c => c | _ => .closeArm),
        timer := (match x.settings.pace with | .free => none | .paced => x.timer),
        counts := { x.counts with
          completed := if completes then min (x.counts.completed + 1) 65535 else x.counts.completed,
          lapsed := if completes then x.counts.lapsed else min (x.counts.lapsed + 1) 65535 } }
      let records : List RecordBody :=
        [if completes then .grantClosed g.serial l g.passages else .grantLapsed g.serial l] ++
        (if pending then [.laneEvent l .holdEntered] else [])
      State.takeUp (records.foldl State.append { u.setLane l y with passes := u.passes.map (fun r =>
        if r.serial = g.serial then { r with grantLane := none } else r) }) l
    exec (.grantDeadline n) s =
      .next (State.transmit (ended (s.elapse (g.lifetime.limit - g.lifetime.elapsed)) (decide (1 ≤ g.passages)))) ∧
    (g.state = .draining → (s.lane l).gate = .shut → s.settle l = ended s true) ∧
    (g.state ≠ .draining ∨ (s.lane l).gate ≠ .shut → s.settle l = s)

/-! ## Gate inputs, windows and the carrier -/

/-- The gate's inputs and timers (R106, R115, R118): the arm-closed input brings a CLOSING gate to SHUT, completing a
DRAINING grant; a close limit that runs out sets STUCK; an obstruction accepted active sets OBSTRUCTION, with the gate
RELEASED, FAULTS counted, FAULT_SET recorded and the lane in the LANE_FAULT cause; one accepted inactive starts the
re-arm timer of an AUTO_CLEAR lane; its running out clears OBSTRUCTION on a FREE lane, with the record, the gate and the
grant as R119 says, and leaves the re-armed mark on a PACED one. What becomes of that gate and grant is said of a lane whose
grant stands in AUTO or HOLD_PENDING only, as StepsKeepTheGatesSafe keeps it. That the rest of a timer passes at its command
is the model's choice, log entry 3. -/
def Obligations.GateInputsAndFaults : Prop :=
  ∀ (s : State) (n : Nat) (l : Lane.Index), laneOf n = some l →
    let x := s.lane l
    let faulted (u t : State) (kind : FaultKind) : Prop :=
      (t.lane l).faults = (u.lane l).faults.add kind ∧ (t.lane l).gate = .released ∧
      (t.lane l).counts = { (u.lane l).counts with faults := min ((u.lane l).counts.faults + 1) 65535 } ∧
      (t.lane l).mode = (u.lane l).mode ∧ (t.lane l).waiting = (u.lane l).waiting ∧
      (∀ g, (t.lane l).grant = some g → (u.lane l).mode.serving = true → g.state ≠ .opened) ∧
      (t.lane l).grant.isSome = (u.lane l).grant.isSome ∧
      t.trunk.causes.laneFault = u.trunk.causes.laneFault ||| laneBit l ∧
      (u.reports.records.length < 256 → t.reports.records = u.reports.records ++
        [{ day := u.clock.dayState.today, time := u.clock.timeOfDay, isSet := u.clock.isSet,
           body := .laneEvent l (.faultSet kind) }]) ∧
      (∀ k, k ≠ l → t.lane k = u.lane k) ∧ t.passes = u.passes ∧ t.clock = u.clock ∧ t.pacing = u.pacing
    (∀ active, active ≠ x.armClosed → exec (.armClosed n active) s = .next (State.transmit (State.settle
      (s.setLane l { x with
        armClosed := active,
        gate := match x.gate with
          | .closing k => if active then .shut else .closing k
          | g => g }) l))) ∧
    (∀ active, active = x.armClosed → exec (.armClosed n active) s = .next s) ∧
    (∀ k, x.gate = .closing k → x.faults.stuck = false → ∃ t,
      exec (.closeLimitExpiry n) s = .next (State.transmit t) ∧ faulted (s.elapse (k.limit - k.elapsed)) t .stuck) ∧
    (∀ active, exec (.obstructionInputChange n active) s = .next
      (if active = x.obstruction.raw then s
      else State.transmit (s.setLane l { x with
        obstruction := {
          raw := active, accepted := x.obstruction.accepted,
          running := if active = x.obstruction.accepted then none else some 0 } }))) ∧
    (∀ ms, x.obstruction.running = some ms →
      let u := s.elapse (20 - ms)
      let v := u.setLane l { u.lane l with
        obstruction := { raw := x.obstruction.raw, accepted := x.obstruction.raw, running := none } }
      (x.obstruction.raw = true → x.faults.obstruction = false → ∃ t,
        exec (.obstructionChangeAccepted n) s = .next (State.transmit t) ∧ faulted v t .obstruction) ∧
      (x.obstruction.raw = true → x.faults.obstruction = true →
        exec (.obstructionChangeAccepted n) s = .next (State.transmit
          (v.setLane l { v.lane l with rearm := .idle }))) ∧
      (x.obstruction.raw = false → exec (.obstructionChangeAccepted n) s = .next (State.transmit
        (if x.faults.obstruction = true ∧ x.settings.fault = .autoClear then
          v.setLane l { v.lane l with rearm := .timing { elapsed := 0, limit := x.settings.rearmTime } } else v)))) ∧
    ∀ k, x.rearm = .timing k →
      let u := s.elapse (k.limit - k.elapsed)
      (x.settings.pace = .paced → exec (.rearmTimerExpiry n) s =
        .next (State.transmit (u.setLane l { u.lane l with rearm := .rearmed }))) ∧
      (x.settings.pace = .free → ∃ t, exec (.rearmTimerExpiry n) s = .next (State.transmit t) ∧
        (t.lane l).faults = { x.faults with obstruction := false } ∧ (t.lane l).rearm = .idle ∧
        (∀ j, j ≠ l → t.lane j = u.lane j) ∧
        ((x.grant.isSome = true → x.mode = .auto ∨ x.mode = .holdPending) →
          t = faultsCleared u l { obstruction := true, stuck := false }))

/-- Sync events and the lift (R110 to R114): an edge is accepted with source EXTERNAL when no sync event fell in the 500
ms before it, measures the period, restarts the sync-loss timer and resumes a STOPPED lift, with a RESUMED record, before
its sync event; any other is ignored; the internal generator's tick is a sync event too. A sync event leaves FREE lanes as
they are; on every paced lane that is not DISABLED it computes the carry mark, restarts the lane timer, takes the pending
window and re-derives the command; on every paced lane, a DISABLED one too, it clears a re-armed OBSTRUCTION. At sync loss
the lift stops, carry marks clear, paced lane timers stop and their commands are re-derived, STOPPED is appended, and
LIFT_STOPPED is raised. That time passes at INTERNAL_CARRIER_TICK and SYNC_LOSS is the model's choice, log entry 3; that an
edge at exactly 500 ms is accepted, log entry 17; that O = 0 counts as reached in a period it begins active in, log entry
21; the order of the lanes, log entry 19. -/
def Obligations.CarrierPacesTheLanes : Prop :=
  (∀ (u : State) (l : Lane.Index),
    let x := u.lane l
    let t := synced u
    t.pacing = { u.pacing with sinceSync := some 0 } ∧
    (x.settings.pace = .free → t.lane l = x) ∧
    (x.settings.pace = .paced → x.rearm = .rearmed →
      (t.lane l).faults = { x.faults with obstruction := false } ∧ (t.lane l).rearm = .idle) ∧
    (x.settings.pace = .paced → x.rearm ≠ .rearmed →
      (t.lane l).faults = x.faults ∧ (t.lane l).rearm = x.rearm ∧ (x.mode = .disabled → t.lane l = x) ∧
      (x.mode ≠ .disabled → (∀ g, x.grant = some g → g.state ≠ .draining) →
        t.lane l = (syncedLane x).derive u.pacing.lift)) ∧
    (x.settings.pace = .paced → x.mode ≠ .disabled →
      (t.lane l).effective = x.settings.pending ∧
      (t.lane l).timer = some { t := 0, openReached := x.settings.pending.openAt == 0,
                                closeReached := x.settings.pending.closeAt == 0 } ∧
      ((t.lane l).carry = true ↔ ∃ k, x.timer = some k ∧ k.openReached = true ∧
        x.effective.openAt ≠ x.effective.closeAt))) ∧
  ∀ s : State,
    (s.pacing.source = .external → (∀ ms, s.pacing.sinceSync = some ms → 500 ≤ ms) →
      exec .carrierSyncEdge s = .next (State.transmit (synced
        { (if s.pacing.lift = .stopped then s.append (.liftEvent .running) else s) with pacing := { s.pacing with
          lift := .running, syncLoss := some 0, sinceEdge := some 0,
          measured := match s.pacing.sinceEdge with | none => s.pacing.measured | some ms => some ms } }))) ∧
    (s.pacing.source = .internal ∨ (∃ ms, s.pacing.sinceSync = some ms ∧ ms < 500) →
      exec .carrierSyncEdge s = .next s) ∧
    (∀ k, s.pacing.generator = some k →
      let u := s.elapse (k.limit - k.elapsed)
      exec .internalCarrierTick s = .next (State.transmit (synced { u with pacing := { u.pacing with
        generator := some { elapsed := 0, limit := s.pacing.internalPeriod } } }))) ∧
    ∀ ms, s.pacing.syncLoss = some ms →
      let u := s.elapse (1000 * s.pacing.syncLossTime - ms)
      let t := liftStopped u
      exec .syncLoss s = .next (State.transmit t) ∧
        t.pacing = { u.pacing with lift := .stopped, syncLoss := none, sinceEdge := none, measured := none } ∧
        t.trunk.causes.liftStopped = true ∧
        (∀ l, (u.lane l).settings.pace = .free → t.lane l = { u.lane l with carry := false }) ∧
        ∀ l, (u.lane l).settings.pace = .paced → (t.lane l).timer = none ∧ (t.lane l).carry = false ∧
          (t.lane l).faults = (u.lane l).faults ∧
          ((∀ g, (u.lane l).grant = some g → g.state ≠ .draining) →
            t.lane l = Lane.derive { u.lane l with timer := none, carry := false } .stopped)

/-! ## Invariants -/

/-- Every step keeps both banks of every table in canonical form, so that equal banks are equal data, and one load
transaction at most, with its table's shadow and no other LOADING, LOADED or CHECKING (R6, R7). With these, every step
keeps every active bank either empty as at cold start or vouched for by the signature it carries, and the active hot list
well formed: and with them each shadow that an activation would take (R3, R6, R11, R14). -/
def Obligations.StepsKeepTheTables : Prop :=
  ∀ s t : State, TablesCanonical s ∧ LoadMatchesShadow s → step s = .next t →
    TablesCanonical t ∧ LoadMatchesShadow t ∧ (BanksVouched s → BanksVouched t) ∧ (HotListsOrdered s → HotListsOrdered t)

/-- Every step keeps the trunk's request side sound: at most 4 requests, 8 BUSY answers and 256 records, answered requests
first, at most one taken and only while it takes time, every answer ready or being sent (R166 to R171, R178). With it,
every step keeps an idle line from leaving anything waiting (R171). Every step keeps the attention state QUIET exactly while
the cause set is empty (R173). -/
def Obligations.StepsKeepTheTrunkSound : Prop :=
  ∀ s t : State, step s = .next t →
    (TrunkSound s → TrunkSound t ∧ (LineBusyOrNothing s → LineBusyOrNothing t)) ∧ (AttentionSound s → AttentionSound t)

/-- Every step keeps every counter and the day clock within their ranges (R126, R127, R128, R133). -/
def Obligations.StepsKeepTheRanges : Prop :=
  ∀ s t : State, CountersBounded s ∧ ClockSound s.clock → step s = .next t →
    CountersBounded t ∧ ClockSound t.clock

/-- Every step keeps each recognizer in agreement with its lane's accepted beam levels, and each beam debounce running
exactly while its raw and accepted levels differ (R77, R78, R82); and every step keeps the loiter timer and mark to lanes
that are not DISABLED and whose recognizer is away from CLEAR (R81). -/
def Obligations.StepsKeepTheRecognizer : Prop :=
  ∀ s t : State, step s = .next t → (RecognizerSound s → RecognizerSound t) ∧ (LoiterSound s → LoiterSound t)

/-- Every step keeps the gates safe: a faulted lane's gate is RELEASED, a gate is OPEN exactly while an open command
governs it, a grant is OPEN exactly while the derived command is open, and modes, lane timers and carrier timers agree
(R84, R100, R105 to R115); and every step keeps re-arm timing to a set OBSTRUCTION in AUTO_CLEAR whose input is inactive
(R118). -/
def Obligations.StepsKeepTheGatesSafe : Prop :=
  ∀ s t : State, step s = .next t → (GatesSound s → GatesSound t) ∧ (RearmSound s → RearmSound t)

/-- Every step keeps passes in use sound: records in ascending serial order and at most 4,096; a grant's record names
its lane, a record that names a lane is that lane's grant's and is not refunded; grants stand only in DAY_OPEN and only
on lanes in AUTO or HOLD_PENDING (R21, R24, R53, R100, R137, R159). Every step keeps each grant's passages within its
allowance, DRAINING exactly at the allowance, committed once it has passages, and each waiting credential behind a grant in
AUTO (R53, R84, R85, R86, R87). -/
def Obligations.StepsKeepPassesInUse : Prop :=
  ∀ s t : State, step s = .next t → (PassesInUse s → PassesInUse t) ∧ (GrantSlotsSound s → GrantSlotsSound t)

/-- The grant balance (R129): every step keeps, for each lane whose GRANTS, COMPLETED and LAPSED have not saturated,
GRANTS equal to COMPLETED plus LAPSED plus the number of open grants; cold start makes all four 0. -/
def Obligations.StepsKeepTheGrantBalance : Prop :=
  (∀ s t : State, AccountsSound s → step s = .next t → AccountsSound t) ∧
  ∀ s : State, ∃ t, exec .coldStart s = .next t ∧
    ∀ l, (t.lane l).counts.grants = 0 ∧ (t.lane l).counts.completed = 0 ∧ (t.lane l).counts.lapsed = 0 ∧
      (t.lane l).grant = none
end

