-- ==== Sys2Proof/Laws/Memory.lean ====
section
/-! SUPPORT. The bytes of a bank: read after write, and the canonical form, which every operation keeps. -/

namespace Sys2Proof.Machine

/-- A byte below every listed address reads as an unlisted one. -/
theorem Memory.read_below {low : Nat} {m : Memory} (h : m.wfFrom low = true) {a : Nat} (ha : a < low) :
    m.read a = unlistedByte := by
  induction m generalizing low with
  | nil => rfl
  | cons c rest ih =>
    obtain ⟨k, v⟩ := c
    simp only [Memory.wfFrom, Bool.and_eq_true, decide_eq_true_eq] at h
    have hk : k ≠ a := by omega
    simp only [Memory.read, hk, if_false]
    exact ih h.2 (by omega)

/-- A form that holds from an address holds from every lower one. -/
theorem Memory.wfFrom_mono {low low' : Nat} {m : Memory} (h : m.wfFrom low = true) (hl : low' ≤ low) :
    m.wfFrom low' = true := by
  cases m with
  | nil => rfl
  | cons c rest =>
    obtain ⟨k, v⟩ := c
    simp only [Memory.wfFrom, Bool.and_eq_true, decide_eq_true_eq] at h ⊢
    exact ⟨⟨by omega, h.1.2⟩, h.2⟩

/-- A write keeps the canonical form from every address it does not lie below. -/
theorem Memory.write_wfFrom {low : Nat} {m : Memory} (h : m.wfFrom low = true) {a : Nat} (ha : low ≤ a) (b : Byte) :
    (m.write a b).wfFrom low = true := by
  induction m generalizing low with
  | nil =>
    unfold Memory.write
    split
    · rfl
    · next hb => simp [Memory.wfFrom, ha, hb]
  | cons c rest ih =>
    obtain ⟨k, v⟩ := c
    simp only [Memory.wfFrom, Bool.and_eq_true, decide_eq_true_eq] at h
    simp only [Memory.write]
    split
    · next hk =>
      split
      · simp [Memory.wfFrom, h]
      · next hb =>
        simp only [Memory.wfFrom, Bool.and_eq_true, decide_eq_true_eq]
        exact ⟨⟨ha, hb⟩, ⟨by omega, h.1.2⟩, h.2⟩
    · split
      · next hk he =>
        subst he
        split
        · exact Memory.wfFrom_mono h.2 (by omega)
        · next hb =>
          simp only [Memory.wfFrom, Bool.and_eq_true, decide_eq_true_eq]
          exact ⟨⟨ha, hb⟩, h.2⟩
      · next hk he =>
        simp only [Memory.wfFrom, Bool.and_eq_true, decide_eq_true_eq]
        exact ⟨h.1, ih h.2 (by omega)⟩

/-- A write keeps the canonical form. -/
theorem Memory.write_wf {m : Memory} (h : m.wf = true) (a : Nat) (b : Byte) : (m.write a b).wf = true :=
  Memory.write_wfFrom h (Nat.zero_le a) b

/-- Writing bytes keeps the canonical form. -/
theorem Memory.writeBytes_wf {m : Memory} (h : m.wf = true) (a : Nat) (bs : List Byte) :
    (m.writeBytes a bs).wf = true := by
  induction bs generalizing m a with
  | nil => exact h
  | cons b bs ih => exact ih (Memory.write_wf h a b) (a + 1)

/-- A byte reads as it was written. -/
theorem Memory.read_write_same {low : Nat} {m : Memory} (h : m.wfFrom low = true) (a : Nat) (b : Byte) :
    (m.write a b).read a = b := by
  induction m generalizing low with
  | nil =>
    unfold Memory.write
    split
    · next hb => simp [Memory.read, hb]
    · simp [Memory.read]
  | cons c rest ih =>
    obtain ⟨k, v⟩ := c
    simp only [Memory.wfFrom, Bool.and_eq_true, decide_eq_true_eq] at h
    simp only [Memory.write]
    split
    · next hk =>
      split
      · next hb =>
        have hka : k ≠ a := by omega
        simp only [Memory.read, hka, if_false, hb]
        exact Memory.read_below h.2 (by omega)
      · simp [Memory.read]
    · split
      · next hk he =>
        subst he
        split
        · next hb => rw [hb]; exact Memory.read_below h.2 (by omega)
        · simp [Memory.read]
      · next hk he =>
        have hka : k ≠ a := fun e => he e.symm
        simp only [Memory.read, hka, if_false]
        exact ih h.2

/-- Every other byte reads as before. -/
theorem Memory.read_write_other {low : Nat} {m : Memory} (h : m.wfFrom low = true) {a c : Nat} (hc : c ≠ a) (b : Byte) :
    (m.write a b).read c = m.read c := by
  have hac : a ≠ c := fun e => hc e.symm
  induction m generalizing low with
  | nil =>
    unfold Memory.write
    split
    · rfl
    · simp [Memory.read, hac]
  | cons e rest ih =>
    obtain ⟨k, v⟩ := e
    simp only [Memory.wfFrom, Bool.and_eq_true, decide_eq_true_eq] at h
    simp only [Memory.write]
    split
    · split
      · rfl
      · simp [Memory.read, hac]
    · split
      · next hk he =>
        subst he
        split
        · simp [Memory.read, hac]
        · simp [Memory.read, hac]
      · by_cases hkc : k = c
        · simp [Memory.read, hkc]
        · simp only [Memory.read, hkc, if_false]
          exact ih h.2

/-- Bytes written from an address read as written there, and every byte outside them as before. -/
theorem Memory.read_writeBytes {m : Memory} (h : m.wf = true) (a : Nat) (bs : List Byte) (c : Nat) :
    (m.writeBytes a bs).read c = if a ≤ c ∧ c < a + bs.length then bs.getD (c - a) 0#8 else m.read c := by
  induction bs generalizing m a with
  | nil => simp [Memory.writeBytes]
  | cons b bs ih =>
    simp only [Memory.writeBytes, List.length_cons]
    rw [ih (Memory.write_wf h a b)]
    by_cases h1 : a + 1 ≤ c ∧ c < a + 1 + bs.length
    · have h2 : a ≤ c ∧ c < a + (bs.length + 1) := by omega
      have h3 : c - a = (c - (a + 1)) + 1 := by omega
      rw [if_pos h1, if_pos h2, h3, List.getD_cons_succ]
    · rw [if_neg h1]
      by_cases hc : c = a
      · subst hc
        rw [Memory.read_write_same h]
        have h2 : c ≤ c ∧ c < c + (bs.length + 1) := by omega
        rw [if_pos h2]; simp
      · rw [Memory.read_write_other h hc, if_neg (by omega)]

/-- The bytes read from an address are its bytes one by one. -/
theorem Memory.readBytes_eq (m : Memory) (a n : Nat) : m.readBytes a n = (List.range n).map (fun i => m.read (a + i)) := by
  induction n generalizing a with
  | zero => rfl
  | succ n ih =>
    simp only [Memory.readBytes, List.range_succ_eq_map, List.map_cons, List.map_map, Nat.add_zero, ih (a + 1)]
    congr 1
    apply List.map_congr_left
    intro i _
    simp only [Function.comp, Nat.succ_eq_add_one]
    congr 1
    omega

/-- The six banks of the part after reset are in canonical form. -/
theorem State.reset_banks_wf (t : TableId) :
    ((State.reset).banks t).active.wf = true ∧ ((State.reset).banks t).shadow.wf = true := by
  cases t <;> exact ⟨rfl, rfl⟩

end Sys2Proof.Machine
end

