-- ==== Sys2Proof/Laws/State.lean ====
section
/-! SUPPORT. One lemma for each field that a named update leaves alone, true by computation. -/

namespace Sys2Proof.Machine

/-! ## State.setLane -/

@[simp] theorem State.setLane_products (s : State) (l : Lane.Index) (x : Lane) : (s.setLane l x).products = s.products := rfl
@[simp] theorem State.setLane_hotList (s : State) (l : Lane.Index) (x : Lane) : (s.setLane l x).hotList = s.hotList := rfl
@[simp] theorem State.setLane_days (s : State) (l : Lane.Index) (x : Lane) : (s.setLane l x).days = s.days := rfl
@[simp] theorem State.setLane_load (s : State) (l : Lane.Index) (x : Lane) : (s.setLane l x).load = s.load := rfl
@[simp] theorem State.setLane_passes (s : State) (l : Lane.Index) (x : Lane) : (s.setLane l x).passes = s.passes := rfl
@[simp] theorem State.setLane_bus (s : State) (l : Lane.Index) (x : Lane) : (s.setLane l x).bus = s.bus := rfl
@[simp] theorem State.setLane_pacing (s : State) (l : Lane.Index) (x : Lane) : (s.setLane l x).pacing = s.pacing := rfl
@[simp] theorem State.setLane_clock (s : State) (l : Lane.Index) (x : Lane) : (s.setLane l x).clock = s.clock := rfl
@[simp] theorem State.setLane_denials (s : State) (l : Lane.Index) (x : Lane) : (s.setLane l x).denials = s.denials := rfl
@[simp] theorem State.setLane_riders (s : State) (l : Lane.Index) (x : Lane) : (s.setLane l x).riders = s.riders := rfl
@[simp] theorem State.setLane_reports (s : State) (l : Lane.Index) (x : Lane) : (s.setLane l x).reports = s.reports := rfl
@[simp] theorem State.setLane_trunk (s : State) (l : Lane.Index) (x : Lane) : (s.setLane l x).trunk = s.trunk := rfl
@[simp] theorem State.setLane_pending (s : State) (l : Lane.Index) (x : Lane) : (s.setLane l x).pending = s.pending := rfl

/-! ## State.modLane -/

@[simp] theorem State.modLane_products (s : State) (l : Lane.Index) (f : Lane → Lane) : (s.modLane l f).products = s.products := rfl
@[simp] theorem State.modLane_hotList (s : State) (l : Lane.Index) (f : Lane → Lane) : (s.modLane l f).hotList = s.hotList := rfl
@[simp] theorem State.modLane_days (s : State) (l : Lane.Index) (f : Lane → Lane) : (s.modLane l f).days = s.days := rfl
@[simp] theorem State.modLane_load (s : State) (l : Lane.Index) (f : Lane → Lane) : (s.modLane l f).load = s.load := rfl
@[simp] theorem State.modLane_passes (s : State) (l : Lane.Index) (f : Lane → Lane) : (s.modLane l f).passes = s.passes := rfl
@[simp] theorem State.modLane_bus (s : State) (l : Lane.Index) (f : Lane → Lane) : (s.modLane l f).bus = s.bus := rfl
@[simp] theorem State.modLane_pacing (s : State) (l : Lane.Index) (f : Lane → Lane) : (s.modLane l f).pacing = s.pacing := rfl
@[simp] theorem State.modLane_clock (s : State) (l : Lane.Index) (f : Lane → Lane) : (s.modLane l f).clock = s.clock := rfl
@[simp] theorem State.modLane_denials (s : State) (l : Lane.Index) (f : Lane → Lane) : (s.modLane l f).denials = s.denials := rfl
@[simp] theorem State.modLane_riders (s : State) (l : Lane.Index) (f : Lane → Lane) : (s.modLane l f).riders = s.riders := rfl
@[simp] theorem State.modLane_reports (s : State) (l : Lane.Index) (f : Lane → Lane) : (s.modLane l f).reports = s.reports := rfl
@[simp] theorem State.modLane_trunk (s : State) (l : Lane.Index) (f : Lane → Lane) : (s.modLane l f).trunk = s.trunk := rfl
@[simp] theorem State.modLane_pending (s : State) (l : Lane.Index) (f : Lane → Lane) : (s.modLane l f).pending = s.pending := rfl

/-! ## State.count -/

@[simp] theorem State.count_products (s : State) (l : Lane.Index) (f : Counts → Counts) : (s.count l f).products = s.products := rfl
@[simp] theorem State.count_hotList (s : State) (l : Lane.Index) (f : Counts → Counts) : (s.count l f).hotList = s.hotList := rfl
@[simp] theorem State.count_days (s : State) (l : Lane.Index) (f : Counts → Counts) : (s.count l f).days = s.days := rfl
@[simp] theorem State.count_load (s : State) (l : Lane.Index) (f : Counts → Counts) : (s.count l f).load = s.load := rfl
@[simp] theorem State.count_passes (s : State) (l : Lane.Index) (f : Counts → Counts) : (s.count l f).passes = s.passes := rfl
@[simp] theorem State.count_bus (s : State) (l : Lane.Index) (f : Counts → Counts) : (s.count l f).bus = s.bus := rfl
@[simp] theorem State.count_pacing (s : State) (l : Lane.Index) (f : Counts → Counts) : (s.count l f).pacing = s.pacing := rfl
@[simp] theorem State.count_clock (s : State) (l : Lane.Index) (f : Counts → Counts) : (s.count l f).clock = s.clock := rfl
@[simp] theorem State.count_denials (s : State) (l : Lane.Index) (f : Counts → Counts) : (s.count l f).denials = s.denials := rfl
@[simp] theorem State.count_riders (s : State) (l : Lane.Index) (f : Counts → Counts) : (s.count l f).riders = s.riders := rfl
@[simp] theorem State.count_reports (s : State) (l : Lane.Index) (f : Counts → Counts) : (s.count l f).reports = s.reports := rfl
@[simp] theorem State.count_trunk (s : State) (l : Lane.Index) (f : Counts → Counts) : (s.count l f).trunk = s.trunk := rfl
@[simp] theorem State.count_pending (s : State) (l : Lane.Index) (f : Counts → Counts) : (s.count l f).pending = s.pending := rfl

/-! ## State.handVerdict -/

@[simp] theorem State.handVerdict_products (s : State) (l : Lane.Index) (v : Verdict) : (s.handVerdict l v).products = s.products := rfl
@[simp] theorem State.handVerdict_hotList (s : State) (l : Lane.Index) (v : Verdict) : (s.handVerdict l v).hotList = s.hotList := rfl
@[simp] theorem State.handVerdict_days (s : State) (l : Lane.Index) (v : Verdict) : (s.handVerdict l v).days = s.days := rfl
@[simp] theorem State.handVerdict_load (s : State) (l : Lane.Index) (v : Verdict) : (s.handVerdict l v).load = s.load := rfl
@[simp] theorem State.handVerdict_passes (s : State) (l : Lane.Index) (v : Verdict) : (s.handVerdict l v).passes = s.passes := rfl
@[simp] theorem State.handVerdict_bus (s : State) (l : Lane.Index) (v : Verdict) : (s.handVerdict l v).bus = s.bus := rfl
@[simp] theorem State.handVerdict_pacing (s : State) (l : Lane.Index) (v : Verdict) : (s.handVerdict l v).pacing = s.pacing := rfl
@[simp] theorem State.handVerdict_clock (s : State) (l : Lane.Index) (v : Verdict) : (s.handVerdict l v).clock = s.clock := rfl
@[simp] theorem State.handVerdict_denials (s : State) (l : Lane.Index) (v : Verdict) : (s.handVerdict l v).denials = s.denials := rfl
@[simp] theorem State.handVerdict_riders (s : State) (l : Lane.Index) (v : Verdict) : (s.handVerdict l v).riders = s.riders := rfl
@[simp] theorem State.handVerdict_reports (s : State) (l : Lane.Index) (v : Verdict) : (s.handVerdict l v).reports = s.reports := rfl
@[simp] theorem State.handVerdict_trunk (s : State) (l : Lane.Index) (v : Verdict) : (s.handVerdict l v).trunk = s.trunk := rfl
@[simp] theorem State.handVerdict_pending (s : State) (l : Lane.Index) (v : Verdict) : (s.handVerdict l v).pending = s.pending := rfl

/-! ## State.derive -/

@[simp] theorem State.derive_products (s : State) (l : Lane.Index) : (s.derive l).products = s.products := rfl
@[simp] theorem State.derive_hotList (s : State) (l : Lane.Index) : (s.derive l).hotList = s.hotList := rfl
@[simp] theorem State.derive_days (s : State) (l : Lane.Index) : (s.derive l).days = s.days := rfl
@[simp] theorem State.derive_load (s : State) (l : Lane.Index) : (s.derive l).load = s.load := rfl
@[simp] theorem State.derive_passes (s : State) (l : Lane.Index) : (s.derive l).passes = s.passes := rfl
@[simp] theorem State.derive_bus (s : State) (l : Lane.Index) : (s.derive l).bus = s.bus := rfl
@[simp] theorem State.derive_pacing (s : State) (l : Lane.Index) : (s.derive l).pacing = s.pacing := rfl
@[simp] theorem State.derive_clock (s : State) (l : Lane.Index) : (s.derive l).clock = s.clock := rfl
@[simp] theorem State.derive_denials (s : State) (l : Lane.Index) : (s.derive l).denials = s.denials := rfl
@[simp] theorem State.derive_riders (s : State) (l : Lane.Index) : (s.derive l).riders = s.riders := rfl
@[simp] theorem State.derive_reports (s : State) (l : Lane.Index) : (s.derive l).reports = s.reports := rfl
@[simp] theorem State.derive_trunk (s : State) (l : Lane.Index) : (s.derive l).trunk = s.trunk := rfl
@[simp] theorem State.derive_pending (s : State) (l : Lane.Index) : (s.derive l).pending = s.pending := rfl

/-! ## State.raise -/

@[simp] theorem State.raise_products (s : State) (f : CauseSet → CauseSet) : (s.raise f).products = s.products := rfl
@[simp] theorem State.raise_hotList (s : State) (f : CauseSet → CauseSet) : (s.raise f).hotList = s.hotList := rfl
@[simp] theorem State.raise_days (s : State) (f : CauseSet → CauseSet) : (s.raise f).days = s.days := rfl
@[simp] theorem State.raise_load (s : State) (f : CauseSet → CauseSet) : (s.raise f).load = s.load := rfl
@[simp] theorem State.raise_passes (s : State) (f : CauseSet → CauseSet) : (s.raise f).passes = s.passes := rfl
@[simp] theorem State.raise_bus (s : State) (f : CauseSet → CauseSet) : (s.raise f).bus = s.bus := rfl
@[simp] theorem State.raise_lanes (s : State) (f : CauseSet → CauseSet) : (s.raise f).lanes = s.lanes := rfl
@[simp] theorem State.raise_pacing (s : State) (f : CauseSet → CauseSet) : (s.raise f).pacing = s.pacing := rfl
@[simp] theorem State.raise_clock (s : State) (f : CauseSet → CauseSet) : (s.raise f).clock = s.clock := rfl
@[simp] theorem State.raise_denials (s : State) (f : CauseSet → CauseSet) : (s.raise f).denials = s.denials := rfl
@[simp] theorem State.raise_riders (s : State) (f : CauseSet → CauseSet) : (s.raise f).riders = s.riders := rfl
@[simp] theorem State.raise_reports (s : State) (f : CauseSet → CauseSet) : (s.raise f).reports = s.reports := rfl
@[simp] theorem State.raise_pending (s : State) (f : CauseSet → CauseSet) : (s.raise f).pending = s.pending := rfl

/-! ## State.setGrantLane -/

@[simp] theorem State.setGrantLane_products (s : State) (serial : Nat) (o : Option Lane.Index) : (s.setGrantLane serial o).products = s.products := rfl
@[simp] theorem State.setGrantLane_hotList (s : State) (serial : Nat) (o : Option Lane.Index) : (s.setGrantLane serial o).hotList = s.hotList := rfl
@[simp] theorem State.setGrantLane_days (s : State) (serial : Nat) (o : Option Lane.Index) : (s.setGrantLane serial o).days = s.days := rfl
@[simp] theorem State.setGrantLane_load (s : State) (serial : Nat) (o : Option Lane.Index) : (s.setGrantLane serial o).load = s.load := rfl
@[simp] theorem State.setGrantLane_bus (s : State) (serial : Nat) (o : Option Lane.Index) : (s.setGrantLane serial o).bus = s.bus := rfl
@[simp] theorem State.setGrantLane_lanes (s : State) (serial : Nat) (o : Option Lane.Index) : (s.setGrantLane serial o).lanes = s.lanes := rfl
@[simp] theorem State.setGrantLane_pacing (s : State) (serial : Nat) (o : Option Lane.Index) : (s.setGrantLane serial o).pacing = s.pacing := rfl
@[simp] theorem State.setGrantLane_clock (s : State) (serial : Nat) (o : Option Lane.Index) : (s.setGrantLane serial o).clock = s.clock := rfl
@[simp] theorem State.setGrantLane_denials (s : State) (serial : Nat) (o : Option Lane.Index) : (s.setGrantLane serial o).denials = s.denials := rfl
@[simp] theorem State.setGrantLane_riders (s : State) (serial : Nat) (o : Option Lane.Index) : (s.setGrantLane serial o).riders = s.riders := rfl
@[simp] theorem State.setGrantLane_reports (s : State) (serial : Nat) (o : Option Lane.Index) : (s.setGrantLane serial o).reports = s.reports := rfl
@[simp] theorem State.setGrantLane_trunk (s : State) (serial : Nat) (o : Option Lane.Index) : (s.setGrantLane serial o).trunk = s.trunk := rfl
@[simp] theorem State.setGrantLane_pending (s : State) (serial : Nat) (o : Option Lane.Index) : (s.setGrantLane serial o).pending = s.pending := rfl

/-! ## State.passageNote -/

@[simp] theorem State.passageNote_products (s : State) (serial : Nat) : (s.passageNote serial).products = s.products := rfl
@[simp] theorem State.passageNote_hotList (s : State) (serial : Nat) : (s.passageNote serial).hotList = s.hotList := rfl
@[simp] theorem State.passageNote_days (s : State) (serial : Nat) : (s.passageNote serial).days = s.days := rfl
@[simp] theorem State.passageNote_load (s : State) (serial : Nat) : (s.passageNote serial).load = s.load := rfl
@[simp] theorem State.passageNote_bus (s : State) (serial : Nat) : (s.passageNote serial).bus = s.bus := rfl
@[simp] theorem State.passageNote_lanes (s : State) (serial : Nat) : (s.passageNote serial).lanes = s.lanes := rfl
@[simp] theorem State.passageNote_pacing (s : State) (serial : Nat) : (s.passageNote serial).pacing = s.pacing := rfl
@[simp] theorem State.passageNote_clock (s : State) (serial : Nat) : (s.passageNote serial).clock = s.clock := rfl
@[simp] theorem State.passageNote_denials (s : State) (serial : Nat) : (s.passageNote serial).denials = s.denials := rfl
@[simp] theorem State.passageNote_riders (s : State) (serial : Nat) : (s.passageNote serial).riders = s.riders := rfl
@[simp] theorem State.passageNote_reports (s : State) (serial : Nat) : (s.passageNote serial).reports = s.reports := rfl
@[simp] theorem State.passageNote_trunk (s : State) (serial : Nat) : (s.passageNote serial).trunk = s.trunk := rfl
@[simp] theorem State.passageNote_pending (s : State) (serial : Nat) : (s.passageNote serial).pending = s.pending := rfl

/-! ## State.markRefund -/

@[simp] theorem State.markRefund_products (s : State) (serial : Nat) (f : Refund) : (s.markRefund serial f).products = s.products := rfl
@[simp] theorem State.markRefund_hotList (s : State) (serial : Nat) (f : Refund) : (s.markRefund serial f).hotList = s.hotList := rfl
@[simp] theorem State.markRefund_days (s : State) (serial : Nat) (f : Refund) : (s.markRefund serial f).days = s.days := rfl
@[simp] theorem State.markRefund_load (s : State) (serial : Nat) (f : Refund) : (s.markRefund serial f).load = s.load := rfl
@[simp] theorem State.markRefund_bus (s : State) (serial : Nat) (f : Refund) : (s.markRefund serial f).bus = s.bus := rfl
@[simp] theorem State.markRefund_lanes (s : State) (serial : Nat) (f : Refund) : (s.markRefund serial f).lanes = s.lanes := rfl
@[simp] theorem State.markRefund_pacing (s : State) (serial : Nat) (f : Refund) : (s.markRefund serial f).pacing = s.pacing := rfl
@[simp] theorem State.markRefund_clock (s : State) (serial : Nat) (f : Refund) : (s.markRefund serial f).clock = s.clock := rfl
@[simp] theorem State.markRefund_denials (s : State) (serial : Nat) (f : Refund) : (s.markRefund serial f).denials = s.denials := rfl
@[simp] theorem State.markRefund_riders (s : State) (serial : Nat) (f : Refund) : (s.markRefund serial f).riders = s.riders := rfl
@[simp] theorem State.markRefund_reports (s : State) (serial : Nat) (f : Refund) : (s.markRefund serial f).reports = s.reports := rfl
@[simp] theorem State.markRefund_trunk (s : State) (serial : Nat) (f : Refund) : (s.markRefund serial f).trunk = s.trunk := rfl
@[simp] theorem State.markRefund_pending (s : State) (serial : Nat) (f : Refund) : (s.markRefund serial f).pending = s.pending := rfl

/-! ## State.beginAttention -/

@[simp] theorem State.beginAttention_products (s : State) : (s.beginAttention).products = s.products := rfl
@[simp] theorem State.beginAttention_hotList (s : State) : (s.beginAttention).hotList = s.hotList := rfl
@[simp] theorem State.beginAttention_days (s : State) : (s.beginAttention).days = s.days := rfl
@[simp] theorem State.beginAttention_load (s : State) : (s.beginAttention).load = s.load := rfl
@[simp] theorem State.beginAttention_passes (s : State) : (s.beginAttention).passes = s.passes := rfl
@[simp] theorem State.beginAttention_bus (s : State) : (s.beginAttention).bus = s.bus := rfl
@[simp] theorem State.beginAttention_lanes (s : State) : (s.beginAttention).lanes = s.lanes := rfl
@[simp] theorem State.beginAttention_pacing (s : State) : (s.beginAttention).pacing = s.pacing := rfl
@[simp] theorem State.beginAttention_clock (s : State) : (s.beginAttention).clock = s.clock := rfl
@[simp] theorem State.beginAttention_denials (s : State) : (s.beginAttention).denials = s.denials := rfl
@[simp] theorem State.beginAttention_riders (s : State) : (s.beginAttention).riders = s.riders := rfl
@[simp] theorem State.beginAttention_reports (s : State) : (s.beginAttention).reports = s.reports := rfl
@[simp] theorem State.beginAttention_pending (s : State) : (s.beginAttention).pending = s.pending := rfl

/-! ## State.beginBatch -/

@[simp] theorem State.beginBatch_products (s : State) : (s.beginBatch).products = s.products := rfl
@[simp] theorem State.beginBatch_hotList (s : State) : (s.beginBatch).hotList = s.hotList := rfl
@[simp] theorem State.beginBatch_days (s : State) : (s.beginBatch).days = s.days := rfl
@[simp] theorem State.beginBatch_load (s : State) : (s.beginBatch).load = s.load := rfl
@[simp] theorem State.beginBatch_passes (s : State) : (s.beginBatch).passes = s.passes := rfl
@[simp] theorem State.beginBatch_bus (s : State) : (s.beginBatch).bus = s.bus := rfl
@[simp] theorem State.beginBatch_lanes (s : State) : (s.beginBatch).lanes = s.lanes := rfl
@[simp] theorem State.beginBatch_pacing (s : State) : (s.beginBatch).pacing = s.pacing := rfl
@[simp] theorem State.beginBatch_clock (s : State) : (s.beginBatch).clock = s.clock := rfl
@[simp] theorem State.beginBatch_denials (s : State) : (s.beginBatch).denials = s.denials := rfl
@[simp] theorem State.beginBatch_riders (s : State) : (s.beginBatch).riders = s.riders := rfl
@[simp] theorem State.beginBatch_pending (s : State) : (s.beginBatch).pending = s.pending := rfl

/-! ## State.answer -/

@[simp] theorem State.answer_products (s : State) (result : Result) (results : List Byte) : (s.answer result results).products = s.products := rfl
@[simp] theorem State.answer_hotList (s : State) (result : Result) (results : List Byte) : (s.answer result results).hotList = s.hotList := rfl
@[simp] theorem State.answer_days (s : State) (result : Result) (results : List Byte) : (s.answer result results).days = s.days := rfl
@[simp] theorem State.answer_load (s : State) (result : Result) (results : List Byte) : (s.answer result results).load = s.load := rfl
@[simp] theorem State.answer_passes (s : State) (result : Result) (results : List Byte) : (s.answer result results).passes = s.passes := rfl
@[simp] theorem State.answer_bus (s : State) (result : Result) (results : List Byte) : (s.answer result results).bus = s.bus := rfl
@[simp] theorem State.answer_lanes (s : State) (result : Result) (results : List Byte) : (s.answer result results).lanes = s.lanes := rfl
@[simp] theorem State.answer_pacing (s : State) (result : Result) (results : List Byte) : (s.answer result results).pacing = s.pacing := rfl
@[simp] theorem State.answer_clock (s : State) (result : Result) (results : List Byte) : (s.answer result results).clock = s.clock := rfl
@[simp] theorem State.answer_denials (s : State) (result : Result) (results : List Byte) : (s.answer result results).denials = s.denials := rfl
@[simp] theorem State.answer_riders (s : State) (result : Result) (results : List Byte) : (s.answer result results).riders = s.riders := rfl
@[simp] theorem State.answer_reports (s : State) (result : Result) (results : List Byte) : (s.answer result results).reports = s.reports := rfl
@[simp] theorem State.answer_pending (s : State) (result : Result) (results : List Byte) : (s.answer result results).pending = s.pending := rfl

/-! ## State.setReceiver -/

@[simp] theorem State.setReceiver_products (s : State) (r : Receiver) : (s.setReceiver r).products = s.products := rfl
@[simp] theorem State.setReceiver_hotList (s : State) (r : Receiver) : (s.setReceiver r).hotList = s.hotList := rfl
@[simp] theorem State.setReceiver_days (s : State) (r : Receiver) : (s.setReceiver r).days = s.days := rfl
@[simp] theorem State.setReceiver_load (s : State) (r : Receiver) : (s.setReceiver r).load = s.load := rfl
@[simp] theorem State.setReceiver_passes (s : State) (r : Receiver) : (s.setReceiver r).passes = s.passes := rfl
@[simp] theorem State.setReceiver_bus (s : State) (r : Receiver) : (s.setReceiver r).bus = s.bus := rfl
@[simp] theorem State.setReceiver_lanes (s : State) (r : Receiver) : (s.setReceiver r).lanes = s.lanes := rfl
@[simp] theorem State.setReceiver_pacing (s : State) (r : Receiver) : (s.setReceiver r).pacing = s.pacing := rfl
@[simp] theorem State.setReceiver_clock (s : State) (r : Receiver) : (s.setReceiver r).clock = s.clock := rfl
@[simp] theorem State.setReceiver_denials (s : State) (r : Receiver) : (s.setReceiver r).denials = s.denials := rfl
@[simp] theorem State.setReceiver_riders (s : State) (r : Receiver) : (s.setReceiver r).riders = s.riders := rfl
@[simp] theorem State.setReceiver_reports (s : State) (r : Receiver) : (s.setReceiver r).reports = s.reports := rfl
@[simp] theorem State.setReceiver_pending (s : State) (r : Receiver) : (s.setReceiver r).pending = s.pending := rfl

/-! ## State.quieten -/

@[simp] theorem State.quieten_products (s : State) : (s.quieten).products = s.products := rfl
@[simp] theorem State.quieten_hotList (s : State) : (s.quieten).hotList = s.hotList := rfl
@[simp] theorem State.quieten_days (s : State) : (s.quieten).days = s.days := rfl
@[simp] theorem State.quieten_load (s : State) : (s.quieten).load = s.load := rfl
@[simp] theorem State.quieten_passes (s : State) : (s.quieten).passes = s.passes := rfl
@[simp] theorem State.quieten_bus (s : State) : (s.quieten).bus = s.bus := rfl
@[simp] theorem State.quieten_lanes (s : State) : (s.quieten).lanes = s.lanes := rfl
@[simp] theorem State.quieten_pacing (s : State) : (s.quieten).pacing = s.pacing := rfl
@[simp] theorem State.quieten_clock (s : State) : (s.quieten).clock = s.clock := rfl
@[simp] theorem State.quieten_denials (s : State) : (s.quieten).denials = s.denials := rfl
@[simp] theorem State.quieten_riders (s : State) : (s.quieten).riders = s.riders := rfl
@[simp] theorem State.quieten_reports (s : State) : (s.quieten).reports = s.reports := rfl
@[simp] theorem State.quieten_pending (s : State) : (s.quieten).pending = s.pending := rfl

/-! ## State.advance -/

@[simp] theorem State.advance_products (s : State) (ms : Nat) : (s.advance ms).products = s.products := rfl
@[simp] theorem State.advance_hotList (s : State) (ms : Nat) : (s.advance ms).hotList = s.hotList := rfl
@[simp] theorem State.advance_days (s : State) (ms : Nat) : (s.advance ms).days = s.days := rfl
@[simp] theorem State.advance_load (s : State) (ms : Nat) : (s.advance ms).load = s.load := rfl
@[simp] theorem State.advance_passes (s : State) (ms : Nat) : (s.advance ms).passes = s.passes := rfl
@[simp] theorem State.advance_denials (s : State) (ms : Nat) : (s.advance ms).denials = s.denials := rfl
@[simp] theorem State.advance_riders (s : State) (ms : Nat) : (s.advance ms).riders = s.riders := rfl
@[simp] theorem State.advance_trunk (s : State) (ms : Nat) : (s.advance ms).trunk = s.trunk := rfl
@[simp] theorem State.advance_pending (s : State) (ms : Nat) : (s.advance ms).pending = s.pending := rfl

/-! ## Reading back what an update wrote -/

/-- Mapping the lanes is the map of the vector. -/
@[simp] theorem mapLanes_eq (f : Lane → Lane) (v : Vector Lane 8) : mapLanes f v = v.map f := by
  apply Vector.toArray_inj.1
  rw [Vector.toArray_map, ← Vector.toArray_toList, List.map_toArray]
  rfl

@[simp] theorem State.setLane_lanes (s : State) (l : Lane.Index) (x : Lane) :
    (s.setLane l x).lanes = s.lanes.set l x := rfl
@[simp] theorem State.raise_causes (s : State) (f : CauseSet → CauseSet) :
    (s.raise f).trunk.causes = f s.trunk.causes := rfl
@[simp] theorem State.raise_queue (s : State) (f : CauseSet → CauseSet) :
    (s.raise f).trunk.queue = s.trunk.queue := rfl
@[simp] theorem State.raise_busy (s : State) (f : CauseSet → CauseSet) : (s.raise f).trunk.busy = s.trunk.busy := rfl
@[simp] theorem State.raise_ready (s : State) (f : CauseSet → CauseSet) :
    (s.raise f).trunk.ready = s.trunk.ready := rfl
@[simp] theorem State.raise_sending (s : State) (f : CauseSet → CauseSet) :
    (s.raise f).trunk.sending = s.trunk.sending := rfl
@[simp] theorem State.answer_queue (s : State) (result : Result) (results : List Byte) :
    (s.answer result results).trunk.queue =
      setOldest (.answered (oldestCode s.trunk.queue :: BitVec.ofNat 8 result.code :: results)) s.trunk.queue := rfl
@[simp] theorem State.answer_ready (s : State) (result : Result) (results : List Byte) :
    (s.answer result results).trunk.ready = s.trunk.ready ++ [.response] := rfl
@[simp] theorem State.answer_busy (s : State) (result : Result) (results : List Byte) :
    (s.answer result results).trunk.busy = s.trunk.busy := rfl
@[simp] theorem State.answer_sending (s : State) (result : Result) (results : List Byte) :
    (s.answer result results).trunk.sending = s.trunk.sending := rfl
@[simp] theorem State.answer_causes (s : State) (result : Result) (results : List Byte) :
    (s.answer result results).trunk.causes = s.trunk.causes := rfl
@[simp] theorem State.answer_attention (s : State) (result : Result) (results : List Byte) :
    (s.answer result results).trunk.attention = s.trunk.attention := rfl
@[simp] theorem State.advance_records (s : State) (ms : Nat) : (s.advance ms).reports.records = s.reports.records := rfl
@[simp] theorem State.advance_dayState (s : State) (ms : Nat) : (s.advance ms).clock.dayState = s.clock.dayState := rfl
@[simp] theorem State.advance_timeOfDay (s : State) (ms : Nat) : (s.advance ms).clock.timeOfDay = s.clock.timeOfDay := rfl
@[simp] theorem State.advance_lift (s : State) (ms : Nat) : (s.advance ms).pacing.lift = s.pacing.lift := rfl

/-! ## Lanes -/

@[simp] theorem State.lane_setLane_same (s : State) (l : Lane.Index) (x : Lane) : (s.setLane l x).lane l = x := by
  simp [State.lane, State.setLane]

theorem State.lane_setLane_other (s : State) (l k : Lane.Index) (x : Lane) (h : k ≠ l) :
    (s.setLane l x).lane k = s.lane k := by
  have h' : l.val ≠ k.val := fun e => h (Fin.ext e.symm)
  simp [State.lane, State.setLane, h']

@[simp] theorem State.lane_modLane_same (s : State) (l : Lane.Index) (f : Lane → Lane) :
    (s.modLane l f).lane l = f (s.lane l) := by
  simp [State.modLane]

theorem State.lane_modLane_other (s : State) (l k : Lane.Index) (f : Lane → Lane) (h : k ≠ l) :
    (s.modLane l f).lane k = s.lane k := State.lane_setLane_other s l k _ h

@[simp] theorem State.lane_advance (s : State) (ms : Nat) (l : Lane.Index) :
    (s.advance ms).lane l = (s.lane l).elapse ms := by
  simp [State.lane, State.advance]

@[simp] theorem Lane.elapse_mode (ms : Nat) (x : Lane) : (x.elapse ms).mode = x.mode := rfl
@[simp] theorem Lane.elapse_faults (ms : Nat) (x : Lane) : (x.elapse ms).faults = x.faults := rfl
@[simp] theorem Lane.elapse_settings (ms : Nat) (x : Lane) : (x.elapse ms).settings = x.settings := rfl
@[simp] theorem Lane.elapse_counts (ms : Nat) (x : Lane) : (x.elapse ms).counts = x.counts := rfl
@[simp] theorem Lane.elapse_recognizer (ms : Nat) (x : Lane) : (x.elapse ms).recognizer = x.recognizer := rfl
@[simp] theorem Lane.elapse_reader (ms : Nat) (x : Lane) : (x.elapse ms).reader = x.reader := rfl
@[simp] theorem Lane.elapse_carry (ms : Nat) (x : Lane) : (x.elapse ms).carry = x.carry := rfl
@[simp] theorem Lane.elapse_effective (ms : Nat) (x : Lane) : (x.elapse ms).effective = x.effective := rfl
@[simp] theorem Lane.elapse_armClosed (ms : Nat) (x : Lane) : (x.elapse ms).armClosed = x.armClosed := rfl

/-! ## Tables -/

@[simp] theorem State.banks_setBanks_same (s : State) (t : TableId) (b : Banks) : (s.setBanks t b).banks t = b := by
  cases t <;> rfl

theorem State.banks_setBanks_other (s : State) (t u : TableId) (b : Banks) (h : u ≠ t) :
    (s.setBanks t b).banks u = s.banks u := by
  cases t <;> cases u <;> first | rfl | exact absurd rfl h

@[simp] theorem State.setBanks_load (s : State) (t : TableId) (b : Banks) : (s.setBanks t b).load = s.load := by
  cases t <;> rfl
@[simp] theorem State.setBanks_passes (s : State) (t : TableId) (b : Banks) : (s.setBanks t b).passes = s.passes := by
  cases t <;> rfl
@[simp] theorem State.setBanks_bus (s : State) (t : TableId) (b : Banks) : (s.setBanks t b).bus = s.bus := by
  cases t <;> rfl
@[simp] theorem State.setBanks_lanes (s : State) (t : TableId) (b : Banks) : (s.setBanks t b).lanes = s.lanes := by
  cases t <;> rfl
@[simp] theorem State.setBanks_pacing (s : State) (t : TableId) (b : Banks) : (s.setBanks t b).pacing = s.pacing := by
  cases t <;> rfl
@[simp] theorem State.setBanks_clock (s : State) (t : TableId) (b : Banks) : (s.setBanks t b).clock = s.clock := by
  cases t <;> rfl
@[simp] theorem State.setBanks_denials (s : State) (t : TableId) (b : Banks) : (s.setBanks t b).denials = s.denials := by
  cases t <;> rfl
@[simp] theorem State.setBanks_riders (s : State) (t : TableId) (b : Banks) : (s.setBanks t b).riders = s.riders := by
  cases t <;> rfl
@[simp] theorem State.setBanks_reports (s : State) (t : TableId) (b : Banks) : (s.setBanks t b).reports = s.reports := by
  cases t <;> rfl
@[simp] theorem State.setBanks_trunk (s : State) (t : TableId) (b : Banks) : (s.setBanks t b).trunk = s.trunk := by
  cases t <;> rfl
@[simp] theorem State.setBanks_pending (s : State) (t : TableId) (b : Banks) : (s.setBanks t b).pending = s.pending := by
  cases t <;> rfl

end Sys2Proof.Machine
end

