-- ==== Sys2Proof/Laws/Ops.lean ====
section
/-! SUPPORT. For each shared operation, what it can do: its frame, and its cases said once. -/

namespace Sys2Proof.Machine

/-! ## Appending a usage record (R178, R180) -/

@[simp] theorem State.append_products (s : State) (b : RecordBody) : (s.append b).products = s.products := by
  simp only [State.append]
  split
  · split <;> rfl
  · rfl
@[simp] theorem State.append_hotList (s : State) (b : RecordBody) : (s.append b).hotList = s.hotList := by
  simp only [State.append]
  split
  · split <;> rfl
  · rfl
@[simp] theorem State.append_days (s : State) (b : RecordBody) : (s.append b).days = s.days := by
  simp only [State.append]
  split
  · split <;> rfl
  · rfl
@[simp] theorem State.append_load (s : State) (b : RecordBody) : (s.append b).load = s.load := by
  simp only [State.append]
  split
  · split <;> rfl
  · rfl
@[simp] theorem State.append_passes (s : State) (b : RecordBody) : (s.append b).passes = s.passes := by
  simp only [State.append]
  split
  · split <;> rfl
  · rfl
@[simp] theorem State.append_bus (s : State) (b : RecordBody) : (s.append b).bus = s.bus := by
  simp only [State.append]
  split
  · split <;> rfl
  · rfl
@[simp] theorem State.append_lanes (s : State) (b : RecordBody) : (s.append b).lanes = s.lanes := by
  simp only [State.append]
  split
  · split <;> rfl
  · rfl
@[simp] theorem State.append_pacing (s : State) (b : RecordBody) : (s.append b).pacing = s.pacing := by
  simp only [State.append]
  split
  · split <;> rfl
  · rfl
@[simp] theorem State.append_clock (s : State) (b : RecordBody) : (s.append b).clock = s.clock := by
  simp only [State.append]
  split
  · split <;> rfl
  · rfl
@[simp] theorem State.append_denials (s : State) (b : RecordBody) : (s.append b).denials = s.denials := by
  simp only [State.append]
  split
  · split <;> rfl
  · rfl
@[simp] theorem State.append_riders (s : State) (b : RecordBody) : (s.append b).riders = s.riders := by
  simp only [State.append]
  split
  · split <;> rfl
  · rfl
@[simp] theorem State.append_pending (s : State) (b : RecordBody) : (s.append b).pending = s.pending := by
  simp only [State.append]
  split
  · split <;> rfl
  · rfl

/-- The record an append makes (R178). -/
theorem State.append_records (s : State) (b : RecordBody) :
    (s.append b).reports.records = s.reports.records ++
      (if s.reports.records.length < Config.reportCapacity then
        [{ day := s.clock.dayState.today, time := s.clock.timeOfDay, isSet := s.clock.isSet, body := b }] else []) := by
  simp only [State.append]
  by_cases h : s.reports.records.length < Config.reportCapacity
  · simp only [h, if_true]
    split <;> rfl
  · simp [h]

/-- The withheld count after an append (R180). -/
theorem State.append_withheld (s : State) (b : RecordBody) :
    (s.append b).reports.withheld =
      if s.reports.records.length < Config.reportCapacity then s.reports.withheld else satInc s.reports.withheld := by
  simp only [State.append]
  by_cases h : s.reports.records.length < Config.reportCapacity
  · simp only [h, if_true]
    split <;> rfl
  · simp [h]

/-- An append changes of the trunk only the cause set and the attention state (R173, R180). -/
theorem State.append_trunk (s : State) (b : RecordBody) :
    (s.append b).trunk.queue = s.trunk.queue ∧ (s.append b).trunk.busy = s.trunk.busy ∧
      (s.append b).trunk.ready = s.trunk.ready ∧ (s.append b).trunk.sending = s.trunk.sending ∧
      (s.append b).trunk.receiver = s.trunk.receiver ∧ (s.append b).trunk.sendCount = s.trunk.sendCount ∧
      (s.append b).trunk.resetting = s.trunk.resetting := by
  simp only [State.append]
  split
  · split <;> exact ⟨rfl, rfl, rfl, rfl, rfl, rfl, rfl⟩
  · exact ⟨rfl, rfl, rfl, rfl, rfl, rfl, rfl⟩

@[simp] theorem State.append_lane (s : State) (b : RecordBody) (l : Lane.Index) : (s.append b).lane l = s.lane l := by
  simp [State.lane]

/-! ## The transmitter (R171) -/

@[simp] theorem State.beginAnswer_products (s : State) (source : AnswerSource) (rest : List AnswerSource) : (s.beginAnswer source rest).products = s.products := by
  cases source <;> simp only [State.beginAnswer] <;> split <;> rfl
@[simp] theorem State.beginAnswer_hotList (s : State) (source : AnswerSource) (rest : List AnswerSource) : (s.beginAnswer source rest).hotList = s.hotList := by
  cases source <;> simp only [State.beginAnswer] <;> split <;> rfl
@[simp] theorem State.beginAnswer_days (s : State) (source : AnswerSource) (rest : List AnswerSource) : (s.beginAnswer source rest).days = s.days := by
  cases source <;> simp only [State.beginAnswer] <;> split <;> rfl
@[simp] theorem State.beginAnswer_load (s : State) (source : AnswerSource) (rest : List AnswerSource) : (s.beginAnswer source rest).load = s.load := by
  cases source <;> simp only [State.beginAnswer] <;> split <;> rfl
@[simp] theorem State.beginAnswer_passes (s : State) (source : AnswerSource) (rest : List AnswerSource) : (s.beginAnswer source rest).passes = s.passes := by
  cases source <;> simp only [State.beginAnswer] <;> split <;> rfl
@[simp] theorem State.beginAnswer_bus (s : State) (source : AnswerSource) (rest : List AnswerSource) : (s.beginAnswer source rest).bus = s.bus := by
  cases source <;> simp only [State.beginAnswer] <;> split <;> rfl
@[simp] theorem State.beginAnswer_lanes (s : State) (source : AnswerSource) (rest : List AnswerSource) : (s.beginAnswer source rest).lanes = s.lanes := by
  cases source <;> simp only [State.beginAnswer] <;> split <;> rfl
@[simp] theorem State.beginAnswer_pacing (s : State) (source : AnswerSource) (rest : List AnswerSource) : (s.beginAnswer source rest).pacing = s.pacing := by
  cases source <;> simp only [State.beginAnswer] <;> split <;> rfl
@[simp] theorem State.beginAnswer_clock (s : State) (source : AnswerSource) (rest : List AnswerSource) : (s.beginAnswer source rest).clock = s.clock := by
  cases source <;> simp only [State.beginAnswer] <;> split <;> rfl
@[simp] theorem State.beginAnswer_denials (s : State) (source : AnswerSource) (rest : List AnswerSource) : (s.beginAnswer source rest).denials = s.denials := by
  cases source <;> simp only [State.beginAnswer] <;> split <;> rfl
@[simp] theorem State.beginAnswer_riders (s : State) (source : AnswerSource) (rest : List AnswerSource) : (s.beginAnswer source rest).riders = s.riders := by
  cases source <;> simp only [State.beginAnswer] <;> split <;> rfl
@[simp] theorem State.beginAnswer_reports (s : State) (source : AnswerSource) (rest : List AnswerSource) : (s.beginAnswer source rest).reports = s.reports := by
  cases source <;> simp only [State.beginAnswer] <;> split <;> rfl
@[simp] theorem State.beginAnswer_pending (s : State) (source : AnswerSource) (rest : List AnswerSource) : (s.beginAnswer source rest).pending = s.pending := by
  cases source <;> simp only [State.beginAnswer] <;> split <;> rfl

@[simp] theorem State.transmit_products (s : State) : (s.transmit).products = s.products := by
  unfold State.transmit
  split
  · rfl
  · split
    · rfl
    · split
      · simp
      · split <;> simp
@[simp] theorem State.transmit_hotList (s : State) : (s.transmit).hotList = s.hotList := by
  unfold State.transmit
  split
  · rfl
  · split
    · rfl
    · split
      · simp
      · split <;> simp
@[simp] theorem State.transmit_days (s : State) : (s.transmit).days = s.days := by
  unfold State.transmit
  split
  · rfl
  · split
    · rfl
    · split
      · simp
      · split <;> simp
@[simp] theorem State.transmit_load (s : State) : (s.transmit).load = s.load := by
  unfold State.transmit
  split
  · rfl
  · split
    · rfl
    · split
      · simp
      · split <;> simp
@[simp] theorem State.transmit_passes (s : State) : (s.transmit).passes = s.passes := by
  unfold State.transmit
  split
  · rfl
  · split
    · rfl
    · split
      · simp
      · split <;> simp
@[simp] theorem State.transmit_bus (s : State) : (s.transmit).bus = s.bus := by
  unfold State.transmit
  split
  · rfl
  · split
    · rfl
    · split
      · simp
      · split <;> simp
@[simp] theorem State.transmit_lanes (s : State) : (s.transmit).lanes = s.lanes := by
  unfold State.transmit
  split
  · rfl
  · split
    · rfl
    · split
      · simp
      · split <;> simp
@[simp] theorem State.transmit_pacing (s : State) : (s.transmit).pacing = s.pacing := by
  unfold State.transmit
  split
  · rfl
  · split
    · rfl
    · split
      · simp
      · split <;> simp
@[simp] theorem State.transmit_clock (s : State) : (s.transmit).clock = s.clock := by
  unfold State.transmit
  split
  · rfl
  · split
    · rfl
    · split
      · simp
      · split <;> simp
@[simp] theorem State.transmit_denials (s : State) : (s.transmit).denials = s.denials := by
  unfold State.transmit
  split
  · rfl
  · split
    · rfl
    · split
      · simp
      · split <;> simp
@[simp] theorem State.transmit_riders (s : State) : (s.transmit).riders = s.riders := by
  unfold State.transmit
  split
  · rfl
  · split
    · rfl
    · split
      · simp
      · split <;> simp
@[simp] theorem State.transmit_pending (s : State) : (s.transmit).pending = s.pending := by
  unfold State.transmit
  split
  · rfl
  · split
    · rfl
    · split
      · simp
      · split <;> simp

@[simp] theorem State.transmit_lane (s : State) (l : Lane.Index) : s.transmit.lane l = s.lane l := by
  simp [State.lane]

/-- What the transmitter can do (R171): nothing, an ATTENTION, an answer, or a batch. -/
theorem State.transmit_cases (s : State) :
    (s.transmit = s ∧ (s.trunk.sending.isSome = true ∨
        (s.trunk.attention ≠ .pending ∧ s.trunk.ready = [] ∧ s.reports.calls = false))) ∨
    (s.trunk.sending = none ∧ s.trunk.attention = .pending ∧ s.transmit = s.beginAttention) ∨
    (s.trunk.sending = none ∧ s.trunk.attention ≠ .pending ∧
      ∃ source rest, s.trunk.ready = source :: rest ∧ s.transmit = s.beginAnswer source rest) ∨
    (s.trunk.sending = none ∧ s.trunk.attention ≠ .pending ∧ s.trunk.ready = [] ∧ s.reports.calls = true ∧
      s.transmit = s.beginBatch) := by
  unfold State.transmit
  cases hs : s.trunk.sending with
  | some f => exact Or.inl ⟨rfl, Or.inl rfl⟩
  | none =>
    cases ha : s.trunk.attention <;> cases hr : s.trunk.ready <;> cases hc : s.reports.calls <;> simp

/-! ## State.elapse: what is due begins, then the timers advance -/

@[simp] theorem State.elapse_products (s : State) (ms : Nat) : (s.elapse ms).products = s.products := by
  simp [State.elapse]
@[simp] theorem State.elapse_hotList (s : State) (ms : Nat) : (s.elapse ms).hotList = s.hotList := by
  simp [State.elapse]
@[simp] theorem State.elapse_days (s : State) (ms : Nat) : (s.elapse ms).days = s.days := by
  simp [State.elapse]
@[simp] theorem State.elapse_load (s : State) (ms : Nat) : (s.elapse ms).load = s.load := by
  simp [State.elapse]
@[simp] theorem State.elapse_passes (s : State) (ms : Nat) : (s.elapse ms).passes = s.passes := by
  simp [State.elapse]
@[simp] theorem State.elapse_denials (s : State) (ms : Nat) : (s.elapse ms).denials = s.denials := by
  simp [State.elapse]
@[simp] theorem State.elapse_riders (s : State) (ms : Nat) : (s.elapse ms).riders = s.riders := by
  simp [State.elapse]
@[simp] theorem State.elapse_pending (s : State) (ms : Nat) : (s.elapse ms).pending = s.pending := by
  simp [State.elapse]
@[simp] theorem State.elapse_lane (s : State) (ms : Nat) (l : Lane.Index) :
    (s.elapse ms).lane l = (s.lane l).elapse ms := by
  simp [State.elapse]
@[simp] theorem State.elapse_dayState (s : State) (ms : Nat) : (s.elapse ms).clock.dayState = s.clock.dayState := by
  simp [State.elapse]
@[simp] theorem State.elapse_timeOfDay (s : State) (ms : Nat) :
    (s.elapse ms).clock.timeOfDay = s.clock.timeOfDay := by
  simp [State.elapse]
@[simp] theorem State.elapse_lift (s : State) (ms : Nat) : (s.elapse ms).pacing.lift = s.pacing.lift := by
  simp [State.elapse]
@[simp] theorem State.elapse_trunk (s : State) (ms : Nat) : (s.elapse ms).trunk = s.transmit.trunk := rfl
@[simp] theorem State.elapse_records (s : State) (ms : Nat) :
    (s.elapse ms).reports.records = s.transmit.reports.records := rfl

/-- The request queue is untouched by the transmitter: a request leaves it when its response has been sent (R171). -/
@[simp] theorem State.transmit_queue (s : State) : s.transmit.trunk.queue = s.trunk.queue := by
  rcases State.transmit_cases s with ⟨h, -⟩ | ⟨-, -, h⟩ | ⟨-, -, source, rest, -, h⟩ | ⟨-, -, -, -, h⟩ <;> rw [h]
  · rfl
  · cases source <;> simp only [State.beginAnswer] <;> split <;> rfl
  · rfl

/-! ## Taking a request (R167) -/

/-- What the taking of a request does: nothing, when the processor can take no such request; otherwise its owner serves
it, its condition follows, and the transmitter goes on. -/
theorem State.serve_cases (s : State) (code : Byte) (f : List Byte → State → Served) :
    (s.takes code = none ∧ s.serve code f = s) ∨
      ∃ params, s.takes code = some params ∧ s.serve code f = (f params s).finish.transmit := by
  unfold State.serve
  cases h : s.takes code with
  | none => exact Or.inl ⟨rfl, rfl⟩
  | some params => exact Or.inr ⟨params, rfl, rfl⟩

/-- The taking of a request that is there to be taken. -/
theorem State.serve_taken {s : State} {code : Byte} {params : List Byte} (h : s.takes code = some params)
    (f : List Byte → State → Served) : s.serve code f = (f params s).finish.transmit := by
  unfold State.serve
  rw [h]

@[simp] theorem Served.finish_answered (s : State) (result : Result) (results : List Byte) :
    (Served.answered s result results).finish = s.answer result results := rfl

@[simp] theorem Served.finish_refuse (s : State) (result : Result) :
    (Served.refuse s result).finish = s.answer result [] := rfl

/-- Answering changes no request but the first that is not answered. -/
theorem setOldest_length (c : Condition) (q : List Request) : (setOldest c q).length = q.length := by
  induction q with
  | nil => rfl
  | cons r rest ih =>
    unfold setOldest
    split <;> simp [ih]

/-! ## The pass usage table (R21 to R29) -/

/-- Where a record put into the table is found. -/
theorem findPass_putPass_same (ps : List PassRecord) (r : PassRecord) : findPass (putPass ps r) r.serial = some r := by
  induction ps with
  | nil => simp [findPass, putPass]
  | cons p ps ih =>
    unfold putPass
    split
    · simp [findPass]
    · split
      · simp [findPass]
      · next h1 h2 =>
        have h3 : ¬ p.serial = r.serial := fun e => h2 e.symm
        simp only [findPass] at ih ⊢
        simp [h3, ih]

/-- Putting a record leaves every other serial's lookup as it was. -/
theorem findPass_putPass_other (ps : List PassRecord) (r : PassRecord) (k : Nat) (hk : k ≠ r.serial) :
    findPass (putPass ps r) k = findPass ps k := by
  have hk' : ¬ r.serial = k := fun e => hk e.symm
  induction ps with
  | nil => simp [findPass, putPass, hk']
  | cons p ps ih =>
    unfold putPass
    split
    · simp [findPass, hk']
    · split
      · next h1 h2 =>
        have h3 : ¬ p.serial = k := fun e => hk' (h2.trans e)
        simp [findPass, hk', h3]
      · simp only [findPass] at ih ⊢
        rw [List.find?_cons, List.find?_cons, ih]

/-- Putting a record keeps the records in ascending serial order. -/
theorem putPass_pairwise {ps : List PassRecord} (h : ps.Pairwise (fun a b => a.serial < b.serial)) (r : PassRecord) :
    (putPass ps r).Pairwise (fun a b => a.serial < b.serial) ∧
      ∀ q ∈ putPass ps r, q = r ∨ q ∈ ps := by
  induction ps with
  | nil => simp [putPass]
  | cons p ps ih =>
    rw [List.pairwise_cons] at h
    obtain ⟨ih1, ih2⟩ := ih h.2
    unfold putPass
    split
    · next h1 =>
      refine ⟨?_, by simp⟩
      rw [List.pairwise_cons]
      refine ⟨?_, List.pairwise_cons.2 h⟩
      intro q hq
      rcases List.mem_cons.1 hq with rfl | hq
      · exact h1
      · exact Nat.lt_trans h1 (h.1 q hq)
    · split
      · next h1 h2 =>
        refine ⟨List.pairwise_cons.2 ⟨fun q hq => by rw [h2]; exact h.1 q hq, h.2⟩, ?_⟩
        intro q hq
        rcases List.mem_cons.1 hq with rfl | hq
        · exact Or.inl rfl
        · exact Or.inr (List.mem_cons_of_mem _ hq)
      · next h1 h2 =>
        refine ⟨List.pairwise_cons.2 ⟨?_, ih1⟩, ?_⟩
        · intro q hq
          rcases ih2 q hq with rfl | hq
          · omega
          · exact h.1 q hq
        · intro q hq
          rcases List.mem_cons.1 hq with rfl | hq
          · exact Or.inr (List.mem_cons_self)
          · rcases ih2 q hq with h | h
            · exact Or.inl h
            · exact Or.inr (List.mem_cons_of_mem _ h)

/-- Changing a record's fields but its serial keeps the order. -/
theorem changePass_pairwise {ps : List PassRecord} (h : ps.Pairwise (fun a b => a.serial < b.serial)) (k : Nat)
    {f : PassRecord → PassRecord} (hf : ∀ r, (f r).serial = r.serial) :
    (changePass ps k f).Pairwise (fun a b => a.serial < b.serial) := by
  unfold changePass
  rw [List.pairwise_map]
  refine h.imp ?_
  intro a b hab
  split <;> split <;> simp_all

/-! ## Counters (R126, R128) -/

theorem satInc_le (n : Nat) : satInc n ≤ 65535 := Nat.min_le_right _ _

theorem wrapInc_lt (n : Nat) : wrapInc n < 4294967296 := Nat.mod_lt _ (by decide)

end Sys2Proof.Machine
end

