-- ==== Sys2Proof/Laws/PerInstr.lean ====
section
/-! SUPPORT. Statements made for every command, one lemma for each constructor. -/

namespace Sys2Proof.Laws.LaneNamed

open Sys2Proof.Machine

/-- The lane operand of a command, where it has one. -/
def laneOperand : Instr → Option Nat
  | .coldStart => none
  | .warmStart => none
  | .requestArrival _ => none
  | .frameDiscarded _ => none
  | .frameSilenceTimeout _ => none
  | .unexpectedFrame _ => none
  | .pauseReports _ => none
  | .resumeReports _ => none
  | .unknownRequest => none
  | .ident => none
  | .statusRead => none
  | .unitReset => none
  | .loadBegin => none
  | .loadBlock => none
  | .loadEnd => none
  | .loadCheckComplete => none
  | .loadAbort => none
  | .tableActivate => none
  | .tableInfo => none
  | .tableRead => none
  | .passStore => none
  | .passFetch => none
  | .passRemove => none
  | .passScan => none
  | .laneHold => none
  | .laneRelease => none
  | .gateCommand => none
  | .faultClear => none
  | .laneConfig => none
  | .bankConfig => none
  | .laneStatus => none
  | .laneReset => none
  | .countersRead => none
  | .countersClearSeason => none
  | .dayOpen => none
  | .dayOpenComplete => none
  | .dayClose => none
  | .timeSet => none
  | .refundQuote => none
  | .refundCommit => none
  | .reportConfig => none
  | .frameSent => none
  | .dwellExpiry => none
  | .roundStart => none
  | .replyReceived _ => none
  | .pollTimeout => none
  | .beamInputChange lane _ _ => some lane
  | .beamChangeAccepted lane _ => some lane
  | .loiter lane => some lane
  | .grantDeadline lane => some lane
  | .armClosed lane _ => some lane
  | .closeLimitExpiry lane => some lane
  | .obstructionInputChange lane _ => some lane
  | .obstructionChangeAccepted lane => some lane
  | .rearmTimerExpiry lane => some lane
  | .windowOpenAt lane => some lane
  | .windowCloseAt lane => some lane
  | .carrierSyncEdge => none
  | .internalCarrierTick => none
  | .syncLoss => none
  | .clockSecond => none

/-- A well-formed command's lane operand is the number of one of the eight lanes. -/
def Statement (i : Instr) : Prop :=
  i.wf = true → ∀ n, laneOperand i = some n → ∃ l, laneOf n = some l ∧ laneNumber l = n

theorem no_lane {i : Instr} (h : laneOperand i = none) : Statement i := by
  intro _ n hn
  rw [h] at hn
  cases hn

theorem laneOf_wf {n : Nat} (h : laneWf n = true) : ∃ l, laneOf n = some l ∧ laneNumber l = n := by
  have h' : 1 ≤ n ∧ n ≤ 8 := of_decide_eq_true h
  refine ⟨⟨n - 1, by omega⟩, ?_, ?_⟩
  · simp [laneOf, h']
  · simp only [laneNumber]
    omega

theorem lane_named {i : Instr} {lane : Nat} (h : i.wf = true → laneWf lane = true := by exact id)
    (ho : laneOperand i = some lane := by rfl) : Statement i := by
  intro hw n hn
  rw [ho] at hn
  cases hn
  exact laneOf_wf (h hw)

theorem coldStart : Statement .coldStart := no_lane rfl
theorem warmStart : Statement .warmStart := no_lane rfl
theorem requestArrival (bytes : List Byte) : Statement (.requestArrival bytes) := no_lane rfl
theorem frameDiscarded (bytes : List Byte) : Statement (.frameDiscarded bytes) := no_lane rfl
theorem frameSilenceTimeout (bytes : List Byte) : Statement (.frameSilenceTimeout bytes) := no_lane rfl
theorem unexpectedFrame (bytes : List Byte) : Statement (.unexpectedFrame bytes) := no_lane rfl
theorem pauseReports (bytes : List Byte) : Statement (.pauseReports bytes) := no_lane rfl
theorem resumeReports (bytes : List Byte) : Statement (.resumeReports bytes) := no_lane rfl
theorem unknownRequest : Statement .unknownRequest := no_lane rfl
theorem ident : Statement .ident := no_lane rfl
theorem statusRead : Statement .statusRead := no_lane rfl
theorem unitReset : Statement .unitReset := no_lane rfl
theorem loadBegin : Statement .loadBegin := no_lane rfl
theorem loadBlock : Statement .loadBlock := no_lane rfl
theorem loadEnd : Statement .loadEnd := no_lane rfl
theorem loadCheckComplete : Statement .loadCheckComplete := no_lane rfl
theorem loadAbort : Statement .loadAbort := no_lane rfl
theorem tableActivate : Statement .tableActivate := no_lane rfl
theorem tableInfo : Statement .tableInfo := no_lane rfl
theorem tableRead : Statement .tableRead := no_lane rfl
theorem passStore : Statement .passStore := no_lane rfl
theorem passFetch : Statement .passFetch := no_lane rfl
theorem passRemove : Statement .passRemove := no_lane rfl
theorem passScan : Statement .passScan := no_lane rfl
theorem laneHold : Statement .laneHold := no_lane rfl
theorem laneRelease : Statement .laneRelease := no_lane rfl
theorem gateCommand : Statement .gateCommand := no_lane rfl
theorem faultClear : Statement .faultClear := no_lane rfl
theorem laneConfig : Statement .laneConfig := no_lane rfl
theorem bankConfig : Statement .bankConfig := no_lane rfl
theorem laneStatus : Statement .laneStatus := no_lane rfl
theorem laneReset : Statement .laneReset := no_lane rfl
theorem countersRead : Statement .countersRead := no_lane rfl
theorem countersClearSeason : Statement .countersClearSeason := no_lane rfl
theorem dayOpen : Statement .dayOpen := no_lane rfl
theorem dayOpenComplete : Statement .dayOpenComplete := no_lane rfl
theorem dayClose : Statement .dayClose := no_lane rfl
theorem timeSet : Statement .timeSet := no_lane rfl
theorem refundQuote : Statement .refundQuote := no_lane rfl
theorem refundCommit : Statement .refundCommit := no_lane rfl
theorem reportConfig : Statement .reportConfig := no_lane rfl
theorem frameSent : Statement .frameSent := no_lane rfl
theorem dwellExpiry : Statement .dwellExpiry := no_lane rfl
theorem roundStart : Statement .roundStart := no_lane rfl
theorem replyReceived (bytes : List Byte) : Statement (.replyReceived bytes) := no_lane rfl
theorem pollTimeout : Statement .pollTimeout := no_lane rfl
theorem beamInputChange (lane : Nat) (beam : Beam) (blocked : Bool) : Statement (.beamInputChange lane beam blocked) := lane_named
theorem beamChangeAccepted (lane : Nat) (beam : Beam) : Statement (.beamChangeAccepted lane beam) := lane_named
theorem loiter (lane : Nat) : Statement (.loiter lane) := lane_named
theorem grantDeadline (lane : Nat) : Statement (.grantDeadline lane) := lane_named
theorem armClosed (lane : Nat) (active : Bool) : Statement (.armClosed lane active) := lane_named
theorem closeLimitExpiry (lane : Nat) : Statement (.closeLimitExpiry lane) := lane_named
theorem obstructionInputChange (lane : Nat) (active : Bool) : Statement (.obstructionInputChange lane active) := lane_named
theorem obstructionChangeAccepted (lane : Nat) : Statement (.obstructionChangeAccepted lane) := lane_named
theorem rearmTimerExpiry (lane : Nat) : Statement (.rearmTimerExpiry lane) := lane_named
theorem windowOpenAt (lane : Nat) : Statement (.windowOpenAt lane) := lane_named
theorem windowCloseAt (lane : Nat) : Statement (.windowCloseAt lane) := lane_named
theorem carrierSyncEdge : Statement .carrierSyncEdge := no_lane rfl
theorem internalCarrierTick : Statement .internalCarrierTick := no_lane rfl
theorem syncLoss : Statement .syncLoss := no_lane rfl
theorem clockSecond : Statement .clockSecond := no_lane rfl

end Sys2Proof.Laws.LaneNamed
end

