-- ==== Sys2Proof/Tests/Slice0.lean ====
section
/-! SUPPORT. The model's own tests. First the well-formedness smoke tests, one ill-formed command for each check. Then the
manual's worked cases and tables, each test naming its source. Then, for each statement of the obligations that has
hypotheses, a witness: concrete states and operands that meet the hypotheses of each of its clauses. -/

namespace Sys2Proof.Tests

open Sys2Proof.Machine Sys2Proof.Safety

set_option maxRecDepth 20000

/-! ## Well-formedness -/

theorem test_wf_request : (Instr.requestArrival (trunkFrame 1#8 7#8 [1#8])).wf = true := by decide
theorem test_wf_request_of_another_kind : (Instr.requestArrival (trunkFrame 2#8 7#8 [1#8])).wf = false := by decide
theorem test_wf_request_broken : (Instr.requestArrival [0x7E#8, 0#8, 0#8, 1#8, 7#8, 0#8, 0#8]).wf = false := by decide
theorem test_wf_request_no_bytes : (Instr.requestArrival []).wf = false := by decide
theorem test_wf_discarded : (Instr.frameDiscarded [0x7E#8, 4#8, 1#8]).wf = true := by decide
theorem test_wf_discarded_good_frame : (Instr.frameDiscarded (trunkFrame 1#8 7#8 [])).wf = false := by decide
theorem test_wf_discarded_byte_too_many : (Instr.frameDiscarded [0x7E#8, 4#8, 1#8, 0#8]).wf = false := by decide
theorem test_wf_silence : (Instr.frameSilenceTimeout [0x7E#8]).wf = true := by decide
theorem test_wf_silence_without_start : (Instr.frameSilenceTimeout [0#8]).wf = false := by decide
theorem test_wf_unexpected : (Instr.unexpectedFrame (trunkFrame 2#8 0#8 [])).wf = true := by decide
theorem test_wf_unexpected_request : (Instr.unexpectedFrame (trunkFrame 1#8 0#8 [])).wf = false := by decide
theorem test_wf_pause : (Instr.pauseReports (trunkFrame 5#8 0#8 [])).wf = true := by decide
theorem test_wf_pause_of_another_kind : (Instr.pauseReports (trunkFrame 6#8 0#8 [])).wf = false := by decide
theorem test_wf_resume : (Instr.resumeReports (trunkFrame 6#8 0#8 [])).wf = true := by decide
theorem test_wf_resume_of_another_kind : (Instr.resumeReports (trunkFrame 5#8 0#8 [])).wf = false := by decide
theorem test_wf_reply : (Instr.replyReceived (idleReply 0)).wf = true := by decide
theorem test_wf_reply_without_sync : (Instr.replyReceived [1#8]).wf = false := by decide

/-- Every command that names a lane is well formed for lanes 1 and 8 and ill formed for 0 and 9. -/
theorem test_wf_lanes :
    ∀ f ∈ [fun n => Instr.beamInputChange n .a true, fun n => .beamChangeAccepted n .b, .loiter, .grantDeadline,
        fun n => .armClosed n true, .closeLimitExpiry, fun n => .obstructionInputChange n true,
        .obstructionChangeAccepted, .rearmTimerExpiry, .windowOpenAt, .windowCloseAt],
      (f 1).wf = true ∧ (f 8).wf = true ∧ (f 0).wf = false ∧ (f 9).wf = false := by
  decide

/-! ## Frames and layouts -/

/-- The layout of R186, byte by byte: start, length, kind, tag, payload, and the check of R187 over length to payload. -/
theorem test_frame_layout :
    (trunkFrame 1#8 9#8 [1#8]).take 6 = [0x7E#8, 0#8, 1#8, 1#8, 9#8, 1#8] ∧ (trunkFrame 1#8 9#8 [1#8]).length = 8 := by
  decide

/-- The poll of R188: sync, lane, verdict kind and value, last tag (FFH when absent), check. -/
theorem test_poll_layout :
    ((Poll.mk 4 (some .wait) (some 3) false 0).bytes).take 5 = [0xA5#8, 5#8, 4#8, 0#8, 3#8] ∧
      ((Poll.mk 4 none none false 0).bytes).take 5 = [0xA5#8, 5#8, 0#8, 0#8, 0xFF#8] := by
  decide

/-! ## Helpers -/

/-- A state whose only request waits and carries a request code and parameters. -/
def asking (code : Byte) (params : List Byte) (s : State) : State :=
  { s with trunk := { Trunk.reset with queue := [{ tag := 5#8, payload := code :: params, condition := .waiting }] } }

theorem takes_asking (code : Byte) (params : List Byte) (s : State) : (asking code params s).takes code = some params := by
  simp [asking, State.takes, State.takeable, Trunk.reset, oldestWaiting]

/-- The state after reset with lane 1 replaced. -/
def one (x : Lane) : State := State.reset.setLane 0 x

/-- An idle line: no attention pending, nothing being sent. -/
def calm (s : State) : State := { s with trunk := { s.trunk with attention := .quiet, causes := .empty } }

/-- A grant of pass 9, product 3, allowance 2. -/
def aGrant : Grant :=
  { serial := 9, product := 3, allowance := 2, passages := 0, state := .waiting, committed := false, created := 0,
    deadline := 12, lifetime := { elapsed := 0, limit := 12000 } }

/-- A record of pass 9. -/
def aRecord : PassRecord :=
  { serial := 9, product := 3, firstDay := 40, window := 8, pricePaid := none, usedDays := [40, 41], ridesToday := 0,
    lastPassage := none, refund := none, grantLane := none, origin := .loaded }

/-- A credential that waits. -/
def aWaiting : Waiting := { serial := 8, product := 3, firstDay := 40, arrival := 0, age := 0 }

/-- The canonical bytes of a product entry with every bit set that matters to the tests (R189): valid, class, W, A, riders,
ride limit, passback, price, refundable, Qf, Qp, F, M, S, lanes, admit unlisted. -/
def entry (cls w a : Nat) (price qf qp fee minimum step : Nat) : List Byte :=
  [1#8] ++ be 1 cls ++ be 1 w ++ be 1 a ++ [2#8, 0#8, 10#8] ++ be 4 price ++ [1#8] ++ be 1 qf ++ be 1 qp ++ be 3 fee ++
    be 3 minimum ++ be 2 step ++ [0xFF#8, 1#8]

/-- A product table with one entry, at product code 3. -/
def products (bytes : List Byte) : Memory := Memory.writeBytes [] 72 bytes

/-- An operating day table whose days from 40 on have the statuses given, with no hours. -/
def days (codes : List Nat) : Memory := Memory.writeBytes [] 240 (codes.flatMap (fun c => be 2 c ++ zeros 4))

/-! ## Worked cases of chapter 8 -/

/-- The product of the worked case "a flexible pass with two closures". -/
def flexible : Memory := products (entry 1 8 6 41800 80 50 500 1000 50)

/-- Days 40 to 47 of that case. -/
def flexibleDays : Memory := days [1, 1, 3, 1, 1, 3, 1, 1]

theorem test_refund_flexible_pass :
    (lookupProduct flexible 3).map (fun p =>
      let b := computeRefund aRecord p flexibleDays 43
      [b.closed, b.partialDays, b.future, b.entitlement, b.creditClosed, b.creditFuture, b.weight, b.gross, b.afterFee,
        b.rounded, b.refund]) = some [2, 0, 4, 4, 2, 2, 360, 25080, 24580, 24550, 24550] := by
  decide

theorem test_refund_near_the_end :
    (lookupProduct flexible 3).map (fun p =>
      let b := computeRefund { aRecord with usedDays := [40, 41, 43, 44, 46] } p flexibleDays 47
      [b.entitlement, b.weight, b.gross, b.afterFee, b.rounded, b.refund]) = some [1, 100, 6966, 6466, 6450, 6450] := by
  decide

/-- The same case with the fee 7,000 instead: nothing is left. -/
theorem test_refund_fee_above_gross :
    (lookupProduct (products (entry 1 8 6 41800 80 50 7000 1000 50)) 3).map (fun p =>
      (computeRefund { aRecord with usedDays := [40, 41, 43, 44, 46] } p flexibleDays 47).refund) = some 0 := by
  decide

/-- The worked case "the same pass across the day close": PARTIAL counts once its day is past. -/
theorem test_refund_across_the_close :
    (lookupProduct (products (entry 1 3 3 16500 100 50 250 500 100)) 3).map (fun p =>
      let r := { aRecord with firstDay := 40, window := 3, pricePaid := some 15900, usedDays := [40] }
      [(computeRefund r p (days [1, 2, 1]) 41).refund, (computeRefund r p (days [1, 2, 1]) 42).refund,
        (computeRefund r p (days [1, 3, 1]) 42).refund]) = some [10300, 7700, 10300] := by
  decide

/-- The worked case "days the bank was not opened". -/
theorem test_refund_days_not_opened :
    (lookupProduct flexible 3).map (fun p =>
      [(computeRefund aRecord p flexibleDays 46).refund,
        (computeRefund aRecord p (days [1, 1, 3, 1, 1, 1, 1, 1]) 46).refund]) = some [24550, 17600] := by
  decide

/-- The worked case "the largest amount". -/
theorem test_refund_largest :
    (lookupProduct (products (entry 1 14 14 999999 80 50 0 0 1)) 3).map (fun p =>
      (computeRefund { aRecord with window := 14, usedDays := [] } p (days (List.replicate 14 3)) 43).refund) =
      some 999999 := by
  decide

/-! ## Tables and tests of other chapters -/

/-- The hours test of R5: before, at opening, the minute before closing, at closing; past midnight; never ruled. -/
theorem test_hours :
    [withinHours 480 960 (479 * 60 + 59), withinHours 480 960 28800, withinHours 480 960 (959 * 60 + 59),
      withinHours 480 960 57600, withinHours 1080 60 3599, withinHours 1080 60 3600, withinHours 0 0 5] =
      [false, true, true, false, true, false, true] := by
  decide

/-- The trigger levels of R184: 1, 4, 8, 16 and 32, and the nearest below. -/
theorem test_trigger_levels : [0, 1, 3, 4, 7, 8, 15, 16, 31, 32, 200].map triggerTaken =
    [1, 1, 1, 4, 4, 8, 8, 16, 16, 32, 32] := by
  decide

/-- Forward, reverse and follow-up sequences of R78, each ending at its passage. -/
theorem test_recognizer :
    [Beam.a, .b, .a, .b].foldl (fun r beam => r.1.move beam) (Recognizer.clear, none) = (.clear, some .forward) ∧
      [Beam.b, .a, .b, .a].foldl (fun r beam => r.1.move beam) (Recognizer.clear, none) = (.clear, some .reverse) ∧
      [Beam.a, .b, .a, .a, .b].foldl (fun r beam => r.1.move beam) (Recognizer.clear, none) = (.enterF, some .forward) := by
  decide

/-- The signature of R12 over no bytes is its start value, and one byte moves it. -/
theorem test_signature_start : signatureOf [] = 0xFFFFFFFF#32 ∧ signatureOf [0#8] = 0x4E08BFB4#32 := by decide

/-- A product with W 9 of class DAY admits no more days than its window; a season product has W 208 (R2). -/
theorem test_product_clamps :
    (lookupProduct (products (entry 0 20 20 5 80 50 0 0 7)) 3).map (fun p => [p.window, p.allowed, p.step]) =
        some [14, 14, 1] ∧
      (lookupProduct (products (entry 2 1 255 5 80 50 0 0 100)) 3).map (fun p => [p.window, p.allowed, p.step]) =
        some [208, 208, 100] ∧
      lookupProduct (products (entry 3 1 1 5 80 50 0 0 1)) 3 = none ∧ lookupProduct flexible 64 = none := by
  decide

/-! ## Witnesses: starts, trunk, transmitter -/

theorem test_witness_StepTakesTheFrontCommand :
    ({ State.reset with pending := [.ident, .coldStart] }).pending = .ident :: [.coldStart] ∧
      State.reset.pending = [] := by
  decide

theorem test_witness_TrunkFramesAreReceivedWhole :
    ([] : List Byte).length ≤ 1024 ∧ (List.replicate 1024 0xFF#8).length ≤ 1024 ∧
      0 < (trunkFrame 1#8 9#8 []).tail.length := by
  decide

/-- Queue lengths 0, 3 and 4, and BUSY lists of 7 and 8, with the receiver hunting. -/
theorem test_witness_RequestsAreQueuedOrAnsweredBusy :
    let r : Request := { tag := 1#8, payload := [1#8], condition := .waiting }
    let at_ (n k : Nat) : State :=
      { State.reset with trunk := { Trunk.reset with
          queue := List.replicate n r, busy := List.replicate k { tag := 2#8, code := 1#8 } } }
    ([] : List Byte).length ≤ 1024 ∧ (List.replicate 1024 0#8).length ≤ 1024 ∧
      State.reset.trunk.receiver = .hunting ∧ (at_ 3 0).trunk.queue.length < 4 ∧
      ¬(at_ 4 7).trunk.queue.length < 4 ∧ (at_ 4 7).trunk.busy.length < 8 ∧ ¬(at_ 4 8).trunk.busy.length < 8 := by
  decide

theorem test_witness_OtherFramesReceived :
    State.reset.trunk.receiver = .hunting ∧ (Instr.frameDiscarded [0x7E#8, 4#8, 1#8]).wf = true ∧
      (Instr.unexpectedFrame (trunkFrame 2#8 0#8 [])).wf = true ∧ (Instr.frameSilenceTimeout [0x7E#8]).wf = true ∧
      (Instr.pauseReports (trunkFrame 5#8 0#8 [])).wf = true ∧ (Instr.resumeReports (trunkFrame 6#8 0#8 [])).wf = true := by
  decide

/-- An open load of the product table. -/
def loading (remaining : Nat) : State :=
  { State.reset with
    products := { Banks.reset with shadowState := if remaining = 0 then .loaded else .loading },
    load := some { table := .products, mode := .fresh, first := 0, count := 4, remaining := remaining, expected := none } }

theorem test_witness_UnfitRequestsAreRefused :
    (∃ r, ({ State.reset with trunk := { Trunk.reset with
        queue := [{ tag := 1#8, payload := [], condition := .waiting }] } }).takeable = some r ∧ r.payload = []) ∧
      (∃ r, (asking 0#8 [] State.reset).takeable = some r ∧ ∃ c rest, r.payload = c :: rest ∧ c ∉ requestCodes) ∧
      (∀ row ∈ requestForms, (asking row.2.1 (zeros (row.2.2 + 1)) State.reset).takes row.2.1 =
        some (zeros (row.2.2 + 1)) ∧ (zeros (row.2.2 + 1)).length ≠ row.2.2) ∧
      (∀ row ∈ laneRequests, (asking row.2 [0#8] State.reset).takes row.2 = some [0#8] ∧
        (asking row.2 [9#8] State.reset).takes row.2 = some [9#8] ∧ ¬(1 ≤ (0#8).toNat ∧ (0#8).toNat ≤ 8) ∧
        ¬(1 ≤ (9#8).toNat ∧ (9#8).toNat ≤ 8)) ∧
      tableOf 0#8 = none ∧ tableOf 4#8 = none ∧ (asking 17#8 [4#8] State.reset).takes 17#8 = some (4#8 :: []) ∧
      (asking 18#8 [0#8, 1#8, 1#8, 1#8, 1#8] State.reset).takes 18#8 = some [0#8, 1#8, 1#8, 1#8, 1#8] ∧
      (asking 22#8 [4#8, 0#8, 0#8] State.reset).takes 22#8 = some [4#8, 0#8, 0#8] ∧
      (asking 17#8 [] State.reset).takes 17#8 = some [] ∧
      (asking 32#8 (zeros 46) State.reset).takes 32#8 = some (zeros 46) ∧ (zeros 46).length ≠ 47 := by
  refine ⟨⟨_, rfl, rfl⟩, ⟨_, rfl, 0#8, [], rfl, by decide⟩, ?_⟩
  decide

theorem test_witness_UnfitLoads :
    tableOf 1#8 = some .products ∧ tableOf 3#8 = some .days ∧
      (asking 17#8 (1#8 :: zeros 383) (loading 1)).takes 17#8 = some (1#8 :: zeros 383) ∧
      (zeros 383).length ≠ 16 * TableId.products.entrySize ∧ (zeros 385).length ≠ 16 * TableId.products.entrySize ∧
      (∀ x, (loading 1).load = some x → x.table ≠ .days) ∧ (∀ x, State.reset.load = some x → x.table ≠ .products) ∧
      (asking 17#8 (3#8 :: zeros 96) (loading 1)).takes 17#8 = some (3#8 :: zeros 96) ∧
      (zeros 96).length = 16 * TableId.days.entrySize ∧
      (asking 18#8 [3#8, 0#8, 0#8, 0#8, 0#8] (loading 0)).takes 18#8 = some [3#8, 0#8, 0#8, 0#8, 0#8] ∧
      (asking 17#8 (1#8 :: zeros 384) (loading 0)).takes 17#8 = some (1#8 :: zeros 384) ∧
      (zeros 384).length = 16 * TableId.products.entrySize ∧
      (∃ x, (loading 0).load = some x ∧ x.table = .products ∧ x.remaining = 0) := by
  refine ⟨rfl, rfl, takes_asking _ _ _, by decide, by decide, ?_, ?_, takes_asking _ _ _, by decide, takes_asking _ _ _,
    takes_asking _ _ _, by decide, ⟨_, rfl, rfl, rfl⟩⟩
  · rintro x hx; cases hx; decide
  · rintro x hx; cases hx

theorem test_witness_TrunkRequestsAnswered :
    (asking 1#8 [] State.reset).takes 1#8 = some [] ∧ (asking 2#8 [] State.reset).takes 2#8 = some [] ∧
      (asking 3#8 [] State.reset).takes 3#8 = some [] := by
  decide

/-- A state whose line sends a frame from a source, with a payload. -/
def sendingFrame (source : FrameSource) (payload : List Byte) (resetting : Bool) : State :=
  { State.reset with trunk := { Trunk.reset with
      sending := some { source := source, kind := 2#8, tag := 5#8, payload := payload }, resetting := resetting } }

theorem test_witness_FrameSentGoesOn :
    (∃ f, (sendingFrame (.answer .response) [1#8, 0#8] false).trunk.sending = some f ∧ f.source = .answer .response ∧
        ¬((sendingFrame (.answer .response) [1#8, 0#8] false).trunk.resetting = true ∧ f.payload = [3#8, 0#8])) ∧
      (∃ f, (sendingFrame (.answer .response) [1#8, 0#8] true).trunk.sending = some f ∧ f.source = .answer .response ∧
        ¬((sendingFrame (.answer .response) [1#8, 0#8] true).trunk.resetting = true ∧ f.payload = [3#8, 0#8])) ∧
      (∃ f, (sendingFrame (.answer .response) [3#8, 0#8] true).trunk.sending = some f ∧ f.source = .answer .response ∧
        (sendingFrame (.answer .response) [3#8, 0#8] true).trunk.resetting = true ∧ f.payload = [3#8, 0#8]) ∧
      (∃ f, (sendingFrame (.answer .busy) [1#8, 1#8] false).trunk.sending = some f ∧ f.source = .answer .busy) ∧
      (∃ f, (sendingFrame .attention [] false).trunk.sending = some f ∧ (f.source = .attention ∨ f.source = .batch)) ∧
      ∃ f, (sendingFrame .batch [] false).trunk.sending = some f ∧ (f.source = .attention ∨ f.source = .batch) := by
  refine ⟨⟨_, rfl, rfl, by decide⟩, ⟨_, rfl, rfl, by decide⟩, ⟨_, rfl, rfl, rfl, rfl⟩, ⟨_, rfl, rfl⟩, ⟨_, rfl, .inl rfl⟩,
    ⟨_, rfl, .inr rfl⟩⟩

/-- The reports of a calm state changed. -/
def reporting (f : ReportQueue → ReportQueue) : State := calm { State.reset with reports := f ReportQueue.reset }

/-- A usage record. -/
def aReport : UsageRecord := { day := none, time := 0, isSet := false, body := .intrusion 0 }

theorem test_witness_TransmitterOrder :
    (∃ f, (sendingFrame .batch [] false).trunk.sending = some f) ∧
      (State.reset.trunk.sending = none ∧ State.reset.trunk.attention = .pending) ∧
      (let s := calm { State.reset with trunk := { Trunk.reset with
          ready := [.response], queue := [{ tag := 5#8, payload := [1#8], condition := .answered [1#8, 0#8] }] } }
       s.trunk.sending = none ∧ s.trunk.attention ≠ .pending ∧ s.trunk.ready = .response :: [] ∧
        ∃ q, s.trunk.queue = q :: [] ∧ q.condition = .answered [1#8, 0#8]) ∧
      (let s := calm { State.reset with trunk := { Trunk.reset with ready := [.busy], busy := [{ tag := 5#8, code := 1#8 }] } }
       s.trunk.ready = .busy :: [] ∧ s.trunk.busy = { tag := 5#8, code := 1#8 } :: []) ∧
      (let s := reporting (fun q => { q with records := List.replicate 8 aReport })
       s.trunk.sending = none ∧ s.trunk.attention ≠ .pending ∧ s.trunk.ready = [] ∧ s.reports.paused = false ∧
        s.reports.trigger ≤ s.reports.records.length) ∧
      (let s := reporting (fun q => { q with dwellMark := true })
       s.trunk.ready = [] ∧ s.reports.paused = false ∧ s.reports.dwellMark = true) ∧
      (let s := reporting (fun q => { q with records := List.replicate 7 aReport })
       s.trunk.ready = [] ∧ s.reports.records.length < s.reports.trigger ∧ s.reports.dwellMark = false) ∧
      (let s := reporting (fun q => { q with paused := true, records := List.replicate 8 aReport })
       s.trunk.ready = [] ∧ s.reports.paused = true) ∧
      QueueOrdered State.reset ∧ AnswersReady State.reset := by
  refine ⟨⟨_, rfl⟩, by decide, ⟨rfl, by decide, rfl, _, rfl, rfl⟩, ⟨rfl, rfl⟩, ?_⟩
  decide

/-! ## Witnesses: tables -/

theorem test_witness_LoadsBeginAndAbort :
    (∀ row ∈ [(0#8, 48#8, 1#8), (0#8, 0#8, 4#8)],
      (asking 16#8 [1#8, 0#8, row.1, row.2.1, row.2.2] State.reset).takes 16#8 =
          some [1#8, 0#8, row.1, row.2.1, row.2.2] ∧
        256 * (row.1 : Byte).toNat + (row.2.1 : Byte).toNat + 16 * (row.2.2 : Byte).toNat ≤ TableId.products.capacity) ∧
      State.reset.load = none ∧ tableOf 1#8 = some .products ∧ LoadMode.ofCode 0#8 = some .fresh ∧
      LoadMode.ofCode 1#8 = some .patch ∧ 1 ≤ (1#8).toNat ∧ (4#8).toNat ≤ 64 ∧
      (∃ x, (loading 1).load = some x) ∧ tableOf 4#8 = none ∧ LoadMode.ofCode 2#8 = none ∧
      ¬(1 ≤ (0#8).toNat ∧ (0#8).toNat ≤ 64) ∧ ¬(1 ≤ (65#8).toNat ∧ (65#8).toNat ≤ 64) ∧
      TableId.products.capacity < 256 * (0#8).toNat + (50#8).toNat + 16 * (1#8).toNat ∧
      (asking 19#8 [] State.reset).takes 19#8 = some [] ∧ (asking 19#8 [] (loading 1)).takes 19#8 = some [] := by
  refine ⟨fun row h => ⟨takes_asking _ _ _, ?_⟩, rfl, rfl, rfl, rfl, by decide, by decide, ⟨_, rfl⟩, rfl, rfl, by decide,
    by decide, by decide, takes_asking _ _ _, takes_asking _ _ _⟩
  rcases List.mem_cons.1 h with rfl | h
  · decide
  · rcases List.mem_cons.1 h with rfl | h
    · decide
    · cases h

/-- The first of four blocks and the last. -/
theorem test_witness_LoadBlockWritesItsBlock :
    ∀ remaining ∈ [4, 1],
      let s := asking 17#8 (1#8 :: zeros 384) (loading remaining)
      TablesCanonical s ∧ s.takes 17#8 = some (1#8 :: zeros 384) ∧ tableOf 1#8 = some .products ∧
        (zeros 384).length = 16 * TableId.products.entrySize ∧
        ∃ x, s.load = some x ∧ x.table = .products ∧ 1 ≤ x.remaining ∧ x.remaining = remaining := by
  intro remaining h
  refine ⟨?_, takes_asking _ _ _, rfl, by decide, ⟨_, rfl, rfl, ?_, rfl⟩⟩
  · intro k _; cases k <;> exact ⟨rfl, rfl⟩
  · have : remaining = 4 ∨ remaining = 1 := by simpa using h
    show 1 ≤ remaining
    omega

/-- A check in progress over the hot list, expecting a signature. -/
def checkingHot (shadow : Memory) (expected : Signature) : State :=
  { State.reset with
    hotList := { Banks.reset with shadow := shadow, shadowState := .checking },
    load := some { table := .hotList, mode := .fresh, first := 0, count := 1, remaining := 0, expected := some expected } }

/-- The signature of a hot list. -/
def hotSignature (m : Memory) : Signature :=
  signatureOf (m.readBytes 0 (TableId.hotList.entrySize * TableId.hotList.capacity))

theorem test_witness_LoadEndAndItsCheck :
    (asking 18#8 [1#8, 0#8, 0#8, 0#8, 1#8] (loading 1)).takes 18#8 = some [1#8, 0#8, 0#8, 0#8, 1#8] ∧
      tableOf 1#8 = some .products ∧
      (∃ x, (loading 1).load = some x ∧ x.table = .products ∧ 1 ≤ x.remaining) ∧
      (∃ x, (loading 0).load = some x ∧ x.table = .products ∧ x.remaining = 0) ∧
      (∀ (m : Memory) (e : Signature), ∃ x, (checkingHot m e).load = some x ∧ x.expected = some e ∧ x.table = .hotList) ∧
      (∀ e : Signature, e ≠ e ^^^ 1#32) ∧ firstOutOfOrder [(9, 1#8)] = some 1 ∧
      firstOutOfOrder [(4, 1#8), (9, 1#8)] = some 1 := by
  refine ⟨takes_asking _ _ _, rfl, ⟨_, rfl, rfl, by decide⟩, ⟨_, rfl, rfl, rfl⟩, fun m e => ⟨_, rfl, rfl, rfl⟩, ?_, by decide,
    by decide⟩
  intro e h
  have : e ^^^ (e ^^^ 1#32) = e ^^^ e := by rw [← h]
  simp at this

/-- Both kinds of shadow that an activation takes, an open load of the table and of another, and a shadow that is not ready. -/
theorem test_witness_TablesSwappedAndRead :
    let shadow (x : ShadowState) : State := { State.reset with products := { Banks.reset with shadowState := x } }
    tableOf 0#8 = none ∧ (asking 20#8 [0#8] State.reset).takes 20#8 = some [0#8] ∧ tableOf 1#8 = some .products ∧
      (asking 20#8 [1#8] (shadow .verified)).takes 20#8 = some [1#8] ∧
      (∀ x, (shadow .verified).load = some x → x.table ≠ .products) ∧
      ((shadow .verified).banks .products).shadowState = .verified ∧
      ((shadow .stale).banks .products).shadowState = .stale ∧
      (∃ x, (loading 1).load = some x ∧ x.table = .products) ∧
      ¬(((shadow .empty).banks .products).shadowState = .verified ∨
        ((shadow .empty).banks .products).shadowState = .stale) ∧
      ¬(((shadow .corrupt).banks .products).shadowState = .verified ∨
        ((shadow .corrupt).banks .products).shadowState = .stale) ∧
      (asking 22#8 [1#8, 0#8, 3#8] State.reset).takes 22#8 = some [1#8, 0#8, 3#8] ∧
      (3#8).toNat < TableId.products.blocks ∧ TableId.products.blocks ≤ (4#8).toNat ∧
      (asking 22#8 [1#8, 1#8, 3#8] State.reset).takes 22#8 = some [1#8, 1#8, 3#8] ∧
      (asking 21#8 [] State.reset).takes 21#8 = some [] := by
  refine ⟨rfl, takes_asking _ _ _, rfl, takes_asking _ _ _, (by rintro x hx; cases hx), rfl, rfl, ⟨_, rfl, rfl⟩, by decide,
    by decide, takes_asking _ _ _, by decide, by decide, takes_asking _ _ _, takes_asking _ _ _⟩

/-- Product codes and entries that are not valid, a day and a season product, a listed serial, the last day and the day after
it, and the three orders of an opening and a closing minute. -/
theorem test_witness_TablesLookedUp :
    let hot : Memory := Memory.writeBytes [] 0 (be 5 7 ++ be 5 9)
    64 ≤ 64 ∧ ((Memory.read [] 72).toNat ≠ 1) ∧ (2 < ((products (entry 3 1 1 5 80 50 0 0 1)).read 73).toNat) ∧
      ((3 : Nat) < 64 ∧ ((products (entry 0 20 20 5 80 50 0 0 7)).read 72).toNat = 1 ∧
        ((products (entry 0 20 20 5 80 50 0 0 7)).read 73).toNat ≤ 2) ∧
      ((products (entry 2 1 255 5 80 50 0 0 100)).read 73).toNat = 2 ∧
      ((9 : Nat) ≠ 0 ∧ ofBe ((List.range 5).map (fun k => hot.read (5 * 1 + k))) = 9) ∧
      (207 : Nat) < 208 ∧ (207 : Nat) ≤ 207 ∧ (480 : Nat) < 960 ∧ (60 : Nat) < 1080 ∧ (480 : Nat) = 480 := by
  decide

/-! ## Witnesses: pass records -/

theorem test_witness_TransferFormReadsBack :
    let r : PassRecord :=
      { serial := 2 ^ 40 - 1, product := 255, firstDay := 200, window := 14, pricePaid := some 999999,
        usedDays := [200, 203, 207], ridesToday := 255, lastPassage := some 86399, refund := some ⟨50, 208⟩,
        grantLane := some 7, origin := .admitted }
    r.serial < 2 ^ 40 ∧ r.product < 256 ∧ r.firstDay < 256 ∧ r.window < 256 ∧ r.ridesToday < 256 ∧
      (∀ v ∈ r.pricePaid, v < 2 ^ 24) ∧ (∀ v ∈ r.lastPassage, v < 2 ^ 24) ∧
      (∀ f ∈ r.refund, f.amount < 2 ^ 24 ∧ f.referenceDay < 256) ∧ r.usedDays.Pairwise (· < ·) ∧
      ∀ d ∈ r.usedDays, d ≤ 207 := by
  decide

/-- A state that holds the records given. -/
def holding (ps : List PassRecord) : State := { State.reset with passes := ps }

/-- The conditions of an accepted form: a form in range, and one that is not for its serial 0. -/
theorem test_witness_PassStorePutsTheRecord :
    aRecord.transferForm.length = 47 ∧ (storedForm aRecord.transferForm).record = aRecord ∧
      (let f := storedForm aRecord.transferForm
       let r := f.record
       1 ≤ r.serial ∧ r.firstDay ≤ 207 ∧ (1 ≤ r.window ∧ r.window ≤ 14 ∨ r.window = 208) ∧
        (∀ d ∈ r.usedDays, r.firstDay ≤ d ∧ d < r.firstDay + r.window) ∧ (∀ v ∈ r.pricePaid, v ≤ 999999) ∧
        (∀ v ∈ r.lastPassage, v ≤ 86399) ∧ f.refundedState = f.refundPresent ∧ r.refund = none) ∧
      ¬(1 ≤ (storedForm (zeros 47)).record.serial) ∧ (zeros 47).length = 47 ∧
      findPass (holding [{ aRecord with grantLane := some 2 }]).passes 9 = some { aRecord with grantLane := some 2 } ∧
      findPass (holding [aRecord]).passes 9 = some aRecord ∧ findPass (holding []).passes 9 = none ∧
      (holding []).passes.length < 4096 ∧
      4096 ≤ (holding (List.replicate 4096 { aRecord with serial := 8 })).passes.length ∧
      findPass (holding (List.replicate 4096 { aRecord with serial := 8 })).passes 9 = none := by
  refine ⟨by decide, by decide, by decide, by decide, by decide, by decide, by decide, by decide, by decide, ?_, ?_⟩
  · simp [holding]
  · simp [holding, findPass]

theorem test_witness_PassesFetchedScannedRemoved :
    ofBe [0#8, 0#8, 0#8, 0#8, 9#8] = 9 ∧
      (asking 33#8 [0#8, 0#8, 0#8, 0#8, 9#8] (holding [aRecord])).takes 33#8 = some [0#8, 0#8, 0#8, 0#8, 9#8] ∧
      (asking 34#8 [0#8, 0#8, 0#8, 0#8, 9#8] (holding [aRecord])).takes 34#8 = some [0#8, 0#8, 0#8, 0#8, 9#8] ∧
      findPass (holding [aRecord]).passes 9 = some aRecord ∧ aRecord.grantLane = none ∧
      findPass (holding [{ aRecord with grantLane := some 2 }]).passes 9 = some { aRecord with grantLane := some 2 } ∧
      findPass (holding []).passes 9 = none ∧
      (asking 35#8 [0#8, 0#8, 0#8, 0#8, 0#8, 0#8] (holding [aRecord])).takes 35#8 =
        some [0#8, 0#8, 0#8, 0#8, 0#8, 0#8] := by
  decide

/-! ## Witnesses: gates -/

theorem lane_one (x : Lane) : (one x).lane 0 = x := by simp [one, State.lane, State.setLane]

/-- A lane without a fault whose gate stands in a state. -/
def gated (g : GateState) : Lane := { Lane.reset with gate := g }

theorem test_witness_GateMoves :
    ({ obstruction := true, stuck := false } : FaultSet).obstruction = true ∧
      ({ obstruction := false, stuck := true } : FaultSet).stuck = true ∧
      (∀ g ∈ [GateState.shut, .closing { elapsed := 0, limit := 500 }, .opened, .released],
        (gated g).faults = { obstruction := false, stuck := false } ∧ (gated g).gate = g) := by
  decide

/-- A lane of each mode that may hold a grant, holding one, and one of each that may not. -/
theorem test_witness_DerivedCommandGoverns :
    let x (m : LaneMode) (g : Option Grant) : Lane := { Lane.reset with mode := m, grant := g }
    ((one (x .auto (some aGrant))).lane 0).mode = .auto ∧ ((one (x .holdPending (some aGrant))).lane 0).mode = .holdPending ∧
      ((one (x (.held .freeArm) none)).lane 0).mode = .held .freeArm ∧ ((one (x .disabled none)).lane 0).mode = .disabled := by
  decide

/-- A timed lane: pace mode, effective window, timer. -/
def timed (p : PaceMode) (w : Window) (k : LaneTimer) : Lane :=
  { Lane.reset with settings := { Settings.reset with pace := p }, effective := w, timer := some k }

/-- A FREE lane; a paced one with O before C, wrapped, and with O = C; an offset that both events can still reach. -/
theorem test_witness_WindowsActive :
    Lane.reset.timer = none ∧
      (∃ k, (timed .free ⟨0, 4000⟩ ⟨0, true, false⟩).timer = some k) ∧
      (timed .free ⟨0, 4000⟩ ⟨0, true, false⟩).settings.pace = .free ∧
      (timed .paced ⟨0, 1⟩ ⟨0, true, false⟩).settings.pace = .paced ∧
      (timed .paced ⟨0, 1⟩ ⟨0, true, false⟩).effective.openAt < (timed .paced ⟨0, 1⟩ ⟨0, true, false⟩).effective.closeAt ∧
      (timed .paced ⟨1, 0⟩ ⟨0, false, true⟩).effective.closeAt < (timed .paced ⟨1, 0⟩ ⟨0, false, true⟩).effective.openAt ∧
      (timed .paced ⟨5, 5⟩ ⟨0, false, false⟩).effective.openAt = (timed .paced ⟨5, 5⟩ ⟨0, false, false⟩).effective.closeAt ∧
      laneOf 1 = some 0 ∧ laneOf 8 = some 7 ∧
      (let x := timed .paced ⟨100, 200⟩ ⟨100, false, false⟩
       ((one x).lane 0).timer = some ⟨100, false, false⟩ ∧ ((one x).lane 0).settings.pace = .paced) := by
  refine ⟨rfl, ⟨_, rfl⟩, ?_⟩
  decide

/-- Every mode that LANE_HOLD, LANE_RELEASE and GATE_COMMAND tell apart, with and without a grant and a waiting credential. -/
theorem test_witness_HoldsAndGateCommands :
    laneOf (1#8).toNat = some 0 ∧
      (∀ s : State, (asking 48#8 [1#8] s).takes 48#8 = some [1#8] ∧ (asking 49#8 [1#8] s).takes 49#8 = some [1#8] ∧
        (asking 50#8 [1#8, 2#8] s).takes 50#8 = some [1#8, 2#8]) ∧
      (∀ (c : Byte) (ps : List Byte) (x : Lane), (asking c ps (one x)).lane 0 = x) ∧
      (GateCommand.ofCode 2#8 = some .freeArm ∧ ∀ n m : Byte, ∀ s : State, (asking 50#8 [n, m] s).takes 50#8 = some [n, m]) ∧
      (¬(1 ≤ (0#8).toNat ∧ (0#8).toNat ≤ 8) ∧ ¬(1 ≤ (9#8).toNat ∧ (9#8).toNat ≤ 8) ∧ 3 ≤ (3#8).toNat) ∧
      (∀ m ∈ [LaneMode.auto, .holdPending, .held .openArm, .disabled],
        ({ Lane.reset with mode := m } : Lane).mode = m ∧ ({ Lane.reset with mode := m } : Lane).grant = none) ∧
      (let x : Lane := { Lane.reset with grant := some aGrant }
       x.mode = .auto ∧ x.grant = some aGrant ∧ x.waiting = none) ∧
      (let x : Lane := { Lane.reset with grant := some aGrant, waiting := some aWaiting }
       x.mode = .auto ∧ x.grant = some aGrant ∧ x.waiting = some aWaiting) ∧
      ∀ d, LaneMode.auto ≠ .held d := by
  refine ⟨rfl, fun s => ⟨takes_asking _ _ _, takes_asking _ _ _, takes_asking _ _ _⟩, fun c ps x => ?_,
    ⟨rfl, fun _ _ _ => takes_asking _ _ _⟩, by decide, by decide, by decide, by decide, by intro d h; cases h⟩
  simp [asking, one, State.lane, State.setLane]

/-- Lanes without a fault, with an active input, and to be cleared: in AUTO with a live and a DRAINING grant, HELD with a
held OPEN and FREE, DISABLED, and with a kind that stays. -/
theorem test_witness_FaultsCleared :
    laneOf (8#8).toNat = some 7 ∧ (∀ s : State, (asking 51#8 [8#8] s).takes 51#8 = some [8#8]) ∧
      Lane.reset.faults = { obstruction := false, stuck := false } ∧
      (let x : Lane := { Lane.reset with
        faults := { obstruction := true, stuck := false }, obstruction := { raw := true, accepted := true, running := none } }
       x.faults.obstruction = true ∧ x.obstruction.accepted = true) ∧
      (let x : Lane := { Lane.reset with faults := { obstruction := true, stuck := true }, gate := .released }
       x.faults.stuck = true ∧ x.obstruction.accepted = false ∧ x.grant = none ∧ x.mode = .auto) ∧
      (∀ m ∈ [LaneMode.held .openArm, .held .freeArm, .disabled],
        let x : Lane := { Lane.reset with mode := m, faults := { obstruction := true, stuck := false }, gate := .released }
        x.faults.obstruction = true ∧ x.obstruction.accepted = false ∧
          (x.grant.isSome = true → x.mode = .auto ∨ x.mode = .holdPending)) ∧
      (∀ g ∈ [GrantState.waiting, .draining],
        let x : Lane := { Lane.reset with
          grant := some { aGrant with state := g }, faults := { obstruction := false, stuck := true }, gate := .released }
        x.faults.stuck = true ∧ x.obstruction.accepted = false ∧
          (x.grant.isSome = true → x.mode = .auto ∨ x.mode = .holdPending)) := by
  refine ⟨rfl, fun s => takes_asking _ _ _, ?_⟩
  decide

theorem test_witness_LaneRequests :
    laneOf (1#8).toNat = some 0 ∧ laneOf (8#8).toNat = some 7 ∧
      (asking 55#8 [8#8] State.reset).takes 55#8 = some [8#8] ∧
      (asking 54#8 [1#8] State.reset).takes 54#8 = some [1#8] :=
  ⟨rfl, rfl, takes_asking _ _ _, takes_asking _ _ _⟩

/-- A HOLD_PENDING lane with a grant, a waiting credential and an active obstruction input, which LANE_RESET may meet. -/
def crowded : Lane :=
  { Lane.reset with
    mode := .holdPending, grant := some { aGrant with passages := 1, committed := true },
    obstruction := { raw := true, accepted := false, running := some 5 }, gate := .opened, timer := some ⟨0, true, false⟩ }

theorem test_witness_LaneResetLeaves :
    ((asking 55#8 [1#8] (one crowded)).lane 0) = crowded ∧ crowded.mode = .holdPending ∧ crowded.grant.isSome = true ∧
      crowded.obstruction.raw = true ∧ crowded.settings.pace = .free ∧ laneOf (1#8).toNat = some 0 := by
  refine ⟨?_, by decide⟩
  simp [asking, one, State.lane, State.setLane]

/-- A LANE_CONFIG of lane 1 with presence bytes and named values, numbers all 0. -/
def config (m1 m0 enable pace fault : Byte) : List Byte := [1#8, m1, m0, enable, pace, fault] ++ zeros 12

theorem test_witness_LaneConfigTakesSettings :
    (zeros 12).length = 12 ∧
      (∀ (m1 m0 e p f : Byte) (s : State), (asking 52#8 (config m1 m0 e p f) s).takes 52#8 = some (config m1 m0 e p f)) ∧
      ¬(1 ≤ (9#8).toNat ∧ (9#8).toNat ≤ 8) ∧
      ((256 * (0#8).toNat + (1#8).toNat).testBit 0 = true ∧ 1 < (2#8).toNat) ∧
      laneOf (1#8).toNat = some 0 ∧ (1#8).toNat ≤ 1 ∧ (0#8).toNat ≤ 1 ∧
      (let x : Lane := { Lane.reset with grant := some aGrant }
       ¬(0#8 = (if x.mode = .disabled then 0#8 else 1#8)) ∧ x.grant.isSome = true) ∧
      (let x : Lane := Lane.reset
       1#8 = (if x.mode = .disabled then 0#8 else 1#8) ∧ 0#8 = BitVec.ofNat 8 x.settings.pace.code ∧
        0#8 = BitVec.ofNat 8 x.settings.fault.code) := by
  refine ⟨by decide, fun _ _ _ _ _ _ => takes_asking _ _ _, ?_⟩
  decide

/-- Presence bits and names for each change, alone and together, and a lane for each: enabled and held, DISABLED, paced with
a re-armed OBSTRUCTION in AUTO_CLEAR, FREE with an OBSTRUCTION whose input is inactive. -/
theorem test_witness_NamedSettingsChange :
    laneOf (1#8).toNat = some 0 ∧ (zeros 12).length = 12 ∧
      (∀ (bits e p f : Byte) (s : State),
        (asking 52#8 (config 1#8 bits e p f) s).takes 52#8 = some (1#8 :: 1#8 :: bits :: e :: p :: f :: zeros 12)) ∧
      (∀ i ∈ [0, 1, 2, 3, 8], (256 * (1#8).toNat + (0xFF#8).toNat).testBit i = true) ∧
      (∀ i ∈ [0, 1, 2], (256 * (1#8).toNat + (0#8).toNat).testBit i = false) ∧
      (∀ m ∈ [LaneMode.auto, .held .freeArm, .disabled], (({ Lane.reset with mode := m } : Lane).grant = none) ∧
        ((decide (m ≠ LaneMode.disabled)) = true ↔ ({ Lane.reset with mode := m } : Lane).mode ≠ .disabled)) ∧
      (let x : Lane := { Lane.reset with
        settings := { Settings.reset with pace := .paced, fault := .autoClear },
        faults := { obstruction := true, stuck := false }, rearm := .rearmed, gate := .released }
       x.settings.pace = .paced ∧ x.rearm = .rearmed ∧ x.settings.fault = .autoClear ∧ x.grant = none) ∧
      (let x : Lane := { Lane.reset with faults := { obstruction := true, stuck := false }, gate := .released }
       x.settings.fault = .latched ∧ x.obstruction.accepted = false ∧ x.settings.pace = .free) := by
  refine ⟨rfl, by decide, fun _ _ _ _ _ => takes_asking _ _ _, ?_⟩
  decide

/-- A source that is none, both changes of source, a source that stays, and a sync-loss time of 9 s given over a timer just
below it and just at it. -/
theorem test_witness_BankConfigTakesSettings :
    (∀ (presence source : Byte) (s : State),
      (asking 53#8 [presence, source, 0#8, 0#8, 0#8, 9#8] s).takes 53#8 = some [presence, source, 0#8, 0#8, 0#8, 9#8]) ∧
      ((1#8).getLsbD 0 = true ∧ (2#8 : Byte) ≠ 0#8 ∧ (2#8 : Byte) ≠ 1#8) ∧
      ((4#8).getLsbD 0 = false ∧ (4#8).getLsbD 2 = true ∧ max 2 (min 60 (ofBe [0#8, 9#8])) = 9) ∧
      (3#8).getLsbD 2 = false ∧
      (∀ ms, ({ Pacing.reset with lift := .running, syncLoss := some 8999 } : Pacing).syncLoss = some ms → ms < 1000 * 9) ∧
      (∃ ms, ({ Pacing.reset with lift := .running, syncLoss := some 9000 } : Pacing).syncLoss = some ms ∧ 1000 * 9 ≤ ms) ∧
      (Pacing.reset.source = .external ∧ Pacing.reset.lift = .stopped ∧ Pacing.reset.syncLoss = none) ∧
      (let p : Pacing := { Pacing.reset with source := .internal, lift := .running, generator := some ⟨0, 8000⟩ }
       p.source = .internal ∧ (0#8).toNat = 0) := by
  refine ⟨fun _ _ _ => takes_asking _ _ _, by decide, by decide, by decide, ?_, ⟨9000, rfl, by decide⟩, by decide, by decide⟩
  intro ms h; cases h; decide

/-! ## Witnesses: counters, days, refunds -/

/-- The selectors 0, 1, 8 and 9 of COUNTERS_READ and COUNTERS_CLEAR_SEASON. -/
theorem test_witness_CountersReadAndSeasonCountersCleared :
    (∀ (n : Byte) (s : State), (asking 64#8 [n] s).takes 64#8 = some [n] ∧ (asking 65#8 [n] s).takes 65#8 = some [n]) ∧
      laneOf (1#8).toNat = some 0 ∧ laneOf (8#8).toNat = some 7 ∧ 8 < (9#8).toNat :=
  ⟨fun _ _ => ⟨takes_asking _ _ _, takes_asking _ _ _⟩, rfl, rfl, by decide⟩

/-- A state in a day state. -/
def inDay (d : DayState) : State := { State.reset with clock := { DayClock.reset with dayState := d, isSet := true } }

theorem test_witness_DayOpens :
    (∀ (d : Byte) (s : State), (asking 66#8 [d, 1#8, 0x51#8, 0x7F#8] s).takes 66#8 = some [d, 1#8, 0x51#8, 0x7F#8]) ∧
      207 < (208#8).toNat ∧ (207#8).toNat ≤ 207 ∧
      (∀ e, (inDay (.dayClosed 207)).clock.dayState = .dayClosed e → (207#8).toNat ≤ e) ∧
      (inDay (.dayClosed 207)).clock.dayState ≠ .noDay ∧
      (∀ e, (inDay (.dayOpen 3)).clock.dayState = .dayClosed e → (207#8).toNat ≤ e) ∧
      (inDay (.dayOpen 3)).clock.dayState ≠ .noDay ∧ State.reset.clock.dayState = .noDay ∧
      (∃ e, (inDay (.dayClosed 206)).clock.dayState = .dayClosed e ∧ e < (207#8).toNat) ∧
      (inDay (.opening 207 0 (some 206))).clock.dayState = .opening 207 0 (some 206) := by
  refine ⟨fun d s => takes_asking _ _ _, by decide, by decide, ?_, by decide, ?_, by decide, rfl, ⟨206, rfl, by decide⟩, rfl⟩
  · intro e h; cases h; decide
  · intro e h; cases h

/-- DAY_CLOSE outside an open day, and in one with a grant on a HOLD_PENDING lane. -/
theorem test_witness_DayCloses :
    (∀ s : State, (asking 67#8 [] s).takes 67#8 = some []) ∧ (∀ d, State.reset.clock.dayState ≠ .dayOpen d) ∧
      (let s := (inDay (.dayOpen 3)).setLane 0 { Lane.reset with mode := .holdPending, grant := some aGrant }
       s.clock.dayState = .dayOpen 3 ∧ ∀ l, (s.lane l).mode = .holdPending → (s.lane l).grant.isSome = true) := by
  refine ⟨fun s => takes_asking _ _ _, by (intro d h; cases h), ?_⟩
  decide

/-- TIME_SET, and a second that passes at 86,399 and at 0. -/
theorem test_witness_TimeOfDaySetAndAdvanced :
    (asking 68#8 [1#8, 0x51#8, 0x80#8] State.reset).takes 68#8 = some [1#8, 0x51#8, 0x80#8] ∧
      (let s := { State.reset with clock := { DayClock.reset with timeOfDay := 86399, millisecond := 1000 } }
       s.clock.timeOfDay < 86400 ∧ s.clock.millisecond ≤ 1000) ∧
      State.reset.clock.timeOfDay < 86400 ∧ State.reset.clock.millisecond ≤ 1000 :=
  ⟨takes_asking _ _ _, by decide, by decide, by decide⟩

theorem test_witness_Refunds :
    ∃ p, lookupProduct flexible 3 = some p ∧ p.cls ≠ .season ∧ 1 ≤ aRecord.window ∧
      productField flexible 3 20 2 ∈ [1, 5, 10, 25, 50, 100] ∧
      1 ≤ (computeRefund aRecord p flexibleDays 43).refund := by
  refine ⟨_, rfl, ?_⟩
  decide

theorem test_witness_RefundEqualToTheFee :
    ∃ p, lookupProduct (products (entry 1 8 6 41800 80 50 25080 0 7)) 3 = some p ∧
      (computeRefund aRecord p flexibleDays 43).gross = p.fee ∧ p.step = 1 ∧
      productField (products (entry 1 8 6 41800 80 50 25080 0 7)) 3 20 2 ∉ [1, 5, 10, 25, 50, 100] := by
  refine ⟨_, rfl, ?_⟩
  decide

/-- A state that holds a record under a product table, in a day state. -/
def refunding (r : PassRecord) (m : Memory) (d : DayState) : State :=
  { inDay d with passes := [r], products := { Banks.reset with active := m }, days := { Banks.reset with active := flexibleDays } }

theorem test_witness_RefundRequestsAnswered :
    ofBe [0#8, 0#8, 0#8, 0#8, 9#8] = 9 ∧
      (∀ s : State, (asking 80#8 [0#8, 0#8, 0#8, 0#8, 9#8] s).takes 80#8 = some [0#8, 0#8, 0#8, 0#8, 9#8] ∧
        (asking 81#8 [0#8, 0#8, 0#8, 0#8, 9#8] s).takes 81#8 = some [0#8, 0#8, 0#8, 0#8, 9#8]) ∧
      findPass State.reset.passes 9 = none ∧ findPass (refunding aRecord flexible .noDay).passes 9 = some aRecord ∧
      lookupProduct (refunding aRecord [] .noDay).products.active aRecord.product = none ∧
      (∃ p, lookupProduct flexible aRecord.product = some p ∧ p.refundable = true ∧ p.cls ≠ .season) ∧
      (∃ p, lookupProduct (products (entry 2 1 1 5 80 50 0 0 1)) 3 = some p ∧ p.cls = .season) ∧
      ({ aRecord with refund := some ⟨50, 3⟩ } : PassRecord).refund = some ⟨50, 3⟩ ∧ aRecord.refund = none ∧
      ({ aRecord with grantLane := some 7 } : PassRecord).grantLane = some 7 ∧ aRecord.grantLane = none ∧
      (refunding aRecord flexible .noDay).clock.dayState = .noDay ∧
      (refunding aRecord flexible (.dayOpen 43)).clock.dayState = .dayOpen 43 ∧
      (refunding aRecord flexible (.dayClosed 42)).clock.dayState = .dayClosed 42 ∧
      (∃ p, lookupProduct (products (entry 1 8 6 41800 80 50 25080 0 50)) 3 = some p ∧
        (computeRefund aRecord p flexibleDays 43).refund = 0) := by
  refine ⟨rfl, fun s => ⟨takes_asking _ _ _, takes_asking _ _ _⟩, rfl, rfl, by decide, ⟨_, rfl, by decide⟩, ⟨_, rfl, by decide⟩, rfl,
    rfl, rfl, rfl, rfl, rfl, rfl, ⟨_, rfl, by decide⟩⟩

/-! ## Witnesses: reports -/

/-- Queue lengths 0, 190, 191, 192, 255 and 256. -/
theorem test_witness_RecordsAppended :
    let full (n : Nat) : ReportQueue := { ReportQueue.reset with records := List.replicate n aReport }
    ((full 190).records.length < 256 ∧ (full 190).records.length ≠ 191) ∧ (full 191).records.length = 191 ∧
      ((full 192).records.length < 256 ∧ (full 192).records.length ≠ 191) ∧
      ((full 255).records.length < 256 ∧ (full 255).records.length ≠ 191) ∧ 256 ≤ (full 256).records.length := by
  simp

theorem test_witness_ReportSettingsAndDwell :
    (asking 96#8 [3#8, 0#8, 5#8, 0#8, 49#8] State.reset).takes 96#8 = some [3#8, 0#8, 5#8, 0#8, 49#8] ∧
      (reporting (fun q => { q with dwell := some ⟨500, 500⟩ })).reports.dwell = some ⟨500, 500⟩ :=
  ⟨takes_asking _ _ _, rfl⟩

/-! ## Witnesses: the lane bus -/

/-- A round with no poll outstanding; a lane due behind two that are not, and no lane due. -/
theorem test_witness_RoundsPollTheHeads :
    let due (x : Lane) : Prop := x.mode ≠ .disabled ∧ (x.reader.state = .online ∨ x.reader.offlineSkip = 0)
    let off : Lane := { Lane.reset with mode := .disabled }
    let skipped : Lane := { Lane.reset with reader := { ReaderContext.reset with offlineSkip := 7 } }
    State.reset.bus.poll = none ∧
      (([0, 1] : List Lane.Index) ++ 2 :: [3, 4, 5, 6, 7]).Nodup ∧
      (let u := (State.reset.setLane 0 off).setLane 1 skipped
       (∀ k ∈ ([0, 1] : List Lane.Index), ¬due (u.lane k)) ∧ due (u.lane 2)) ∧
      (let u := (State.reset.setLane 0 off).setLane 1 skipped
       ([0, 1] : List Lane.Index).Nodup ∧ ∀ k ∈ ([0, 1] : List Lane.Index), ¬due (u.lane k)) := by
  decide

/-- A credential at the ends of its ranges. -/
def edgeCredential : Credential :=
  { tag := 15, serial := 2 ^ 40 - 1, product := 255, firstDay := 207, media := .token, quality := 3 }

theorem test_witness_RepliesAreJudgedByTheirLane :
    let c := edgeCredential
    c.tag ≤ 15 ∧ 1 ≤ c.serial ∧ c.serial < 2 ^ 40 ∧ c.product < 256 ∧ c.firstDay ≤ 207 ∧ c.quality ≤ 3 := by
  decide

/-- A state with a poll of lane 1 outstanding. -/
def polling (void : Bool) (x : Lane) (elapsed : Nat := 3) : State :=
  { one x with bus := { poll := some { lane := 0, verdict := none, ackTag := none, void := void, elapsed := elapsed },
                        sinceRound := some elapsed } }

/-- No poll; a void one; one at 3 ms and one past it; bytes with a sync byte and without; each kind of reply. -/
theorem test_witness_ExchangesEnd :
    State.reset.bus.poll = none ∧ (∀ b ∈ ([1#8, 2#8] : List Byte), b ≠ syncByte) ∧
      (∃ p, (polling false Lane.reset).bus.poll = some p ∧ p.elapsed ≤ 3) ∧
      (∃ p, (polling false Lane.reset 4).bus.poll = some p ∧ p.void = false ∧ 3 < p.elapsed) ∧
      (∃ p, (polling true Lane.reset).bus.poll = some p ∧ p.void = true) ∧
      (∃ p, (polling false Lane.reset).bus.poll = some p ∧ p.void = false) ∧ (∃ b ∈ idleReply 0, b = syncByte) ∧
      (let c := edgeCredential
       c.tag ≤ 15 ∧ 1 ≤ c.serial ∧ c.serial < 2 ^ 40 ∧ c.product < 256 ∧ c.firstDay ≤ 207 ∧ c.quality ≤ 3) ∧
      Lane.reset.reader.lastTag ≠ some edgeCredential.tag ∧
      (let x : Lane := { Lane.reset with reader := { ReaderContext.reset with lastTag := some 15 } }
       x.reader.lastTag = some edgeCredential.tag) ∧
      judgeReply 0 ((idleReply 1).dropWhile (fun b => b != syncByte)) = none ∧
      (let body := [1#8, 2#8, 0#8]
       judgeReply 0 ((syncByte :: body ++ be 2 (frameCheck body).toNat).dropWhile (fun b => b != syncByte)) =
        some .health) := by
  refine ⟨rfl, by decide, ⟨_, rfl, by decide⟩, ⟨_, rfl, rfl, by decide⟩, ⟨_, rfl, rfl⟩, ⟨_, rfl, rfl⟩, ?_⟩
  decide

/-! ## Witnesses: admission and passages -/

/-- A tap of pass 9. -/
def aTap : Tap := { serial := 9, product := 3, firstDay := 40 }

/-- A state in which the tap of pass 9 at lane 1 passes every check: product 3 valid, day 43 OPEN, the record present. -/
def admitting (x : Lane) : State := (refunding aRecord flexible (.dayOpen 43)).setLane 0 x

theorem test_witness_Admission :
    (∃ p, (admitting Lane.reset).decision 0 aTap = .grant { record := aRecord, provisional := false } p) ∧
      (∃ p, (admitting Lane.reset).decision 0 { aTap with serial := 7 } =
        .grant { record := { provisionalRecord 0 { aTap with serial := 7 } p with grantLane := none }, provisional := true } p) ∧
      State.reset.decision 0 aTap = .deny .dayNotOpen ∧
      ((admitting Lane.reset).lane 0).mode = .auto ∧ ((admitting Lane.reset).lane 0).grant = none ∧
      (let x : Lane := { Lane.reset with mode := .holdPending }
       x.mode = .holdPending) ∧
      (let x : Lane := { Lane.reset with mode := .held .closeArm }
       ∃ c, x.mode = .held c) ∧
      (let x : Lane := { Lane.reset with grant := some aGrant }
       x.mode = .auto ∧ x.grant = some aGrant ∧ aGrant.serial = aTap.serial ∧ aGrant.serial ≠ ({ aTap with serial := 7 } : Tap).serial) := by
  refine ⟨⟨_, rfl⟩, ⟨_, rfl⟩, rfl, rfl, rfl, rfl, ⟨_, rfl⟩, ?_⟩
  decide

/-- Credentials that wait: none, one at the age of 5,000 ms and one above it. -/
theorem test_witness_GrantsAndDenials :
    Lane.reset.waiting = none ∧
      (let x : Lane := { Lane.reset with waiting := some { aWaiting with age := 5000 } }
       ∃ w, x.waiting = some w ∧ w.age ≤ 5000) ∧
      (let x : Lane := { Lane.reset with waiting := some { aWaiting with age := 5001 } }
       ∃ w, x.waiting = some w ∧ 5000 < w.age) ∧
      (∃ sub : Subject, sub.provisional = false) ∧ ∃ sub : Subject, sub.provisional = true :=
  ⟨rfl, ⟨_, rfl, by decide⟩, ⟨_, rfl, by decide⟩, ⟨{ record := aRecord, provisional := false }, rfl⟩,
    ⟨{ record := aRecord, provisional := true }, rfl⟩⟩

theorem test_witness_BeamsMoveTheRecognizer :
    laneOf 1 = some 0 ∧
      (let x : Lane := { Lane.reset with beamA := { raw := true, accepted := false, running := some 49 } }
       ((one x).lane 0).beam .a = { raw := true, accepted := false, running := some 49 }) ∧
      (let x : Lane := { Lane.reset with loiterTimer := some ⟨0, 8000⟩, recognizer := .crossF }
       ((one x).lane 0).loiterTimer = some ⟨0, 8000⟩ ∧ ((one x).lane 0).loiterMark = false) ∧
      (let x : Lane := { Lane.reset with loiterTimer := some ⟨0, 8000⟩, recognizer := .crossF, loiterMark := true }
       ((one x).lane 0).loiterTimer = some ⟨0, 8000⟩ ∧ ((one x).lane 0).loiterMark = true) := by
  decide

/-- Every mode and grant a passage meets: first of a group, the last, a further one, and reverse passages. -/
theorem test_witness_PassagesCounted :
    let x (m : LaneMode) (g : Option Grant) : Lane := { Lane.reset with mode := m, grant := g }
    let draining : Grant := { aGrant with state := .draining, passages := 2, committed := true }
    (x (.held .openArm) none).mode = .held .openArm ∧ (x .disabled none).mode = .disabled ∧
      (x .auto none).mode = .auto ∧ (x .auto none).grant = none ∧
      ((x .auto (some draining)).grant = some draining ∧ draining.state = .draining ∧ 1 ≤ draining.passages) ∧
      ((x .holdPending (some aGrant)).mode = .holdPending ∧ (x .holdPending (some aGrant)).grant = some aGrant ∧
        aGrant.state ≠ .draining ∧ aGrant.passages = 0) ∧
      (inDay (.dayOpen 207)).clock.dayState.today = some 207 := by
  decide

/-- A grant at its deadline with no passage and with one, with a credential waiting behind it, in HOLD_PENDING and on a paced
lane, and a DRAINING grant at a SHUT gate. -/
theorem test_witness_GrantsEnd :
    let x (g : Grant) (gate : GateState) : Lane := { Lane.reset with grant := some g, gate := gate, waiting := some aWaiting }
    laneOf 1 = some 0 ∧ ((one (x aGrant .opened)).lane 0).grant = some aGrant ∧
      ((one (x aGrant .opened)).lane 0).waiting = some aWaiting ∧
      ((one { x aGrant .opened with mode := .holdPending, waiting := none }).lane 0).grant = some aGrant ∧
      ((one { x aGrant .shut with settings := { Settings.reset with pace := .paced } }).lane 0).grant = some aGrant ∧
      aGrant.passages = 0 ∧ 1 ≤ ({ aGrant with passages := 1 } : Grant).passages ∧
      (let g : Grant := { aGrant with state := .draining, passages := 2 }
       ((one (x g .shut)).lane 0).grant = some g ∧ g.state = .draining ∧ ((one (x g .shut)).lane 0).gate = .shut) ∧
      aGrant.state ≠ .draining := by
  decide

/-! ## Witnesses: gate inputs and the carrier -/

theorem test_witness_GateInputsAndFaults :
    laneOf 1 = some 0 ∧ (true ≠ Lane.reset.armClosed ∧ false = Lane.reset.armClosed) ∧
      (((one Lane.reset).lane 0).gate = .closing ⟨0, 1500⟩ ∧ ((one Lane.reset).lane 0).faults.stuck = false) ∧
      (let x : Lane := { Lane.reset with obstruction := { raw := true, accepted := false, running := some 20 } }
       x.obstruction.running = some 20 ∧ x.obstruction.raw = true ∧ x.faults.obstruction = false) ∧
      (let x : Lane := { Lane.reset with
        obstruction := { raw := true, accepted := false, running := some 0 }, faults := ⟨true, false⟩, gate := .released }
       x.obstruction.running = some 0 ∧ x.obstruction.raw = true ∧ x.faults.obstruction = true) ∧
      (let x : Lane := { Lane.reset with obstruction := { raw := false, accepted := true, running := some 19 } }
       x.obstruction.running = some 19 ∧ x.obstruction.raw = false) ∧
      (let x : Lane := { Lane.reset with rearm := .timing ⟨1999, 2000⟩ }
       x.rearm = .timing ⟨1999, 2000⟩ ∧ x.settings.pace = .free ∧ x.grant = none) ∧
      (let x : Lane := { Lane.reset with rearm := .timing ⟨1999, 2000⟩, grant := some aGrant }
       x.rearm = .timing ⟨1999, 2000⟩ ∧ x.settings.pace = .free ∧ x.grant.isSome = true ∧ x.mode = .auto) ∧
      (let x : Lane := { Lane.reset with rearm := .timing ⟨0, 500⟩, settings := { Settings.reset with pace := .paced } }
       x.rearm = .timing ⟨0, 500⟩ ∧ x.settings.pace = .paced) := by
  decide

/-- An edge 500 ms after the last sync event is accepted, one after 499 ms is not; a generator and a sync-loss timer run. -/
theorem test_witness_CarrierPacesTheLanes :
    let at_ (p : Pacing) : State := { State.reset with pacing := p }
    (at_ Pacing.reset).pacing.source = .external ∧
      (∀ ms, (at_ { Pacing.reset with sinceSync := some 500 }).pacing.sinceSync = some ms → 500 ≤ ms) ∧
      (∃ ms, (at_ { Pacing.reset with sinceSync := some 499 }).pacing.sinceSync = some ms ∧ ms < 500) ∧
      (at_ { Pacing.reset with source := .internal }).pacing.source = .internal ∧
      (∃ k, (at_ { Pacing.reset with generator := some ⟨0, 8000⟩ }).pacing.generator = some k) ∧
      (∃ ms, (at_ { Pacing.reset with lift := .running, syncLoss := some 0 }).pacing.syncLoss = some ms) ∧
      ((one (timed .paced ⟨0, 100⟩ ⟨0, true, false⟩)).lane 0).settings.pace = .paced ∧
      ((one (timed .paced ⟨0, 100⟩ ⟨0, true, false⟩)).lane 0).mode ≠ .disabled ∧
      (let x : Lane := { timed .paced ⟨0, 100⟩ ⟨0, true, false⟩ with grant := some aGrant }
       x.rearm ≠ .rearmed ∧ x.grant = some aGrant ∧ aGrant.state ≠ .draining) ∧
      (let x : Lane := { Lane.reset with
        mode := .disabled, settings := { Settings.reset with pace := .paced, fault := .autoClear }, rearm := .rearmed,
        faults := { obstruction := true, stuck := false }, gate := .released }
       x.settings.pace = .paced ∧ x.rearm = .rearmed ∧ x.mode = .disabled) ∧
      ((one Lane.reset).lane 0).settings.pace = .free := by
  refine ⟨rfl, by (intro ms h; cases h; decide), ⟨499, rfl, by decide⟩, rfl, ⟨_, rfl⟩, ⟨_, rfl⟩, ?_⟩
  decide

/-! ## Witnesses: invariants -/

/-- No position of an empty hot list holds a serial. -/
theorem hotSerial_nil (i : Nat) : hotSerial [] i = 0 := rfl

theorem hotListOrdered_nil : HotListOrdered [] := fun i _ h => absurd (hotSerial_nil (i + 1)) h

/-- The state after reset meets every invariant that a step keeps, and its step answers a next state. -/
theorem test_witness_Invariants :
    (TablesCanonical State.reset ∧ LoadMatchesShadow State.reset) ∧ TrunkSound State.reset ∧
      (CountersBounded State.reset ∧ ClockSound State.reset.clock) ∧ RecognizerSound State.reset ∧ GatesSound State.reset ∧
      AccountsSound State.reset ∧ GrantSlotsSound State.reset ∧ RearmSound State.reset ∧ LoiterSound State.reset ∧
      AttentionSound State.reset ∧ ∃ t, step State.reset = .next t := by
  refine ⟨?_, ?_, ?_, ?_, ?_, ?_, ?_, ?_, ?_, ?_, _, rfl⟩ <;> decide

theorem test_witness_BanksVouchedAndHotListsOrdered : BanksVouched State.reset ∧ HotListsOrdered State.reset := by
  refine ⟨fun k _ => ?_, hotListOrdered_nil, fun h => ?_⟩
  · cases k <;> exact ⟨.inl ⟨rfl, rfl⟩, fun h => absurd h (by decide)⟩
  · exact absurd h (by decide)

/-- The first ATTENTION is being sent: the line is busy, and the invariants of the trunk hold together. -/
theorem test_witness_StepsKeepTheTrunkSound :
    TrunkSound State.reset.transmit ∧ LineBusyOrNothing State.reset.transmit ∧ AttentionSound State.reset.transmit := by
  decide

/-- A lane with a grant, OPEN in its window at an open gate, and a state that holds it and its record and takes a command. -/
def opened : State :=
  { admitting { Lane.reset with
      grant := some { aGrant with state := .opened }, gate := .opened, timer := some ⟨0, true, false⟩,
      counts := { Counts.reset with grants := 1 } } with
    passes := [{ aRecord with grantLane := some 0 }], pending := [.beamInputChange 1 .a true] }

/-- The invariants of grants hold in a state with an open grant and a waiting command. -/
theorem test_witness_InvariantsWithAGrant :
    GatesSound opened ∧ PassesSound opened ∧ ModesSound opened ∧ GrantsInDay opened ∧ AccountsSound opened ∧
      GrantSlotsSound opened := by
  refine ⟨?_, ?_, ?_, ?_, ?_, ?_⟩ <;> decide

theorem test_witness_StepsKeepPassesInUse : PassesInUse opened := by
  refine ⟨by decide, by decide, by decide, ?_, ?_⟩
  · intro l g h
    match l with
    | 0 => cases h; exact ⟨_, List.mem_singleton.2 rfl, rfl, rfl⟩
    | 1 | 2 | 3 | 4 | 5 | 6 | 7 => cases h
  · intro r hr l hl
    cases List.mem_singleton.1 hr
    cases hl
    exact ⟨⟨_, rfl, rfl⟩, rfl⟩

/-- Shadows that a warm start keeps, and one that it empties. -/
theorem test_witness_WarmStartKeeps :
    let shadow (x : ShadowState) : State := { State.reset with days := { Banks.reset with shadowState := x } }
    ((shadow .verified).banks .days).shadowState = .verified ∧ ((shadow .stale).banks .days).shadowState = .stale ∧
      ¬(((shadow .checking).banks .days).shadowState = .verified ∨
        ((shadow .checking).banks .days).shadowState = .stale) := by
  decide

/-! ## Commands -/

/-- What a command leaves, read by `f`. -/
def after {α : Type} (c : Instr) (s : State) (f : State → α) : Option α :=
  match exec c s with
  | .next t => some (f t)
  | _ => none

/-- The payload of the frame being sent. -/
def sent (s : State) : Option (List Byte) := s.trunk.sending.map OutFrame.payload

/-- R177: after a cold start the first frame is the ATTENTION with COLD_START alone, bit 0 of the first byte. -/
theorem test_cold_start : after .coldStart State.reset sent = some (some [1#8, 0#8, 0#8]) := by decide

/-- R124: a RELEASED gate with the arm closed starts SHUT. -/
theorem test_warm_start_gate :
    after .warmStart (one { Lane.reset with gate := .released, armClosed := true }) (fun t => (t.lane 0).gate) = some .shut := by
  decide

/-- R175: IDENT answers 70, 480 and the counts of the part, behind its code and OK. -/
theorem test_ident :
    after .ident (calm (asking 1#8 [] State.reset)) (fun t => (sent t).map (List.take 6)) =
      some (some [1#8, 0#8, 70#8, 1#8, 0xE0#8, 1#8]) := by
  decide

/-- R167: a request of code 0 is answered BAD_REQUEST. -/
theorem test_unknown_request :
    after .unknownRequest (calm (asking 0#8 [] State.reset)) sent = some (some [0#8, BitVec.ofNat 8 Result.badRequest.code]) := by
  decide

/-- R8: on the product table, first index 48 with block count 1 is accepted; first index 50 is refused. -/
theorem test_load_begin :
    after .loadBegin (asking 16#8 [1#8, 0#8, 0#8, 48#8, 1#8] State.reset) (fun t => t.products.shadowState) = some .loading ∧
      after .loadBegin (asking 16#8 [1#8, 0#8, 0#8, 50#8, 1#8] State.reset) (fun t => t.products.shadowState) =
        some .empty := by
  decide

/-- R101, R103: a hold on an empty lane, and its release. -/
theorem test_hold_and_release :
    after .laneHold (asking 48#8 [1#8] State.reset) (fun t => ((t.lane 0).mode, (t.reports.records.map (·.body)))) =
        some (.held .closeArm, [.laneEvent 0 .holdEntered]) ∧
      after .laneRelease (asking 49#8 [1#8] (one { Lane.reset with mode := .held .freeArm, gate := .released }))
        (fun t => ((t.lane 0).mode, (t.lane 0).gate)) = some (.auto, .closing ⟨0, 1500⟩) := by
  decide

/-- R104: FREE on a HELD lane releases the arm. -/
theorem test_gate_command :
    after .gateCommand (asking 50#8 [1#8, 2#8] (one { Lane.reset with mode := .held .closeArm }))
      (fun t => ((t.lane 0).mode, (t.lane 0).gate)) = some (.held .freeArm, .released) := by
  decide

/-- R69, R107, R108: a tap at a FREE lane with OPEN_AT 0 is granted and its gate opens in the same event. -/
theorem test_reply_granted :
    after (.replyReceived (credentialReply 0 { edgeCredential with serial := 9, product := 3, firstDay := 40 }))
      { admitting { Lane.reset with armClosed := true, gate := .shut } with
        bus := { poll := some { lane := 0, verdict := none, ackTag := none, void := false, elapsed := 1 },
                 sinceRound := some 1 } }
      (fun t => ((t.lane 0).gate, (t.lane 0).grant.map Grant.state, (t.lane 0).counts.grants,
        (t.lane 0).reader.verdict)) = some (.opened, some .opened, 1, some (.grant 2)) := by
  decide

/-- R85, R25: a forward passage ends on an OPEN grant of allowance 2: one passage, today committed, still OPEN. -/
theorem test_forward_passage :
    after (.beamChangeAccepted 1 .b)
      (opened.setLane 0 { opened.lane 0 with
        recognizer := .leaveF, beamB := { raw := false, accepted := true, running := some 50 } })
      (fun t => ((t.lane 0).grant.map (fun g => (g.passages, g.state)), t.passes.map PassRecord.usedDays)) =
      some (some (1, .opened), [[40, 41, 43]]) := by
  decide

/-- R88: a forward passage with no grant is an intrusion. -/
theorem test_intrusion :
    after (.beamChangeAccepted 1 .b)
      (one { Lane.reset with recognizer := .leaveF, beamB := { raw := false, accepted := true, running := some 50 } })
      (fun t => ((t.lane 0).counts.intrusions, t.reports.records.map (·.body))) = some (1, [.intrusion 0]) := by
  decide

/-- R93: a grant with no passages lapses at its deadline, and its record is free again. -/
theorem test_deadline :
    after (.grantDeadline 1) opened
      (fun t => ((t.lane 0).counts.lapsed, (t.lane 0).grant, t.passes.map PassRecord.grantLane, (t.lane 0).gate)) =
      some (1, none, [none], .closing ⟨0, 1500⟩) := by
  decide

/-- R106: the arm-closed input shuts a CLOSING gate; the close limit sets STUCK and releases it. -/
theorem test_closing_gate :
    after (.armClosed 1 true) State.reset (fun t => (t.lane 0).gate) = some .shut ∧
      after (.closeLimitExpiry 1) State.reset (fun t => ((t.lane 0).gate, (t.lane 0).faults)) =
        some (.released, ⟨false, true⟩) := by
  decide

/-- R119: FAULT_CLEAR reopens a lane held OPEN, releases one held FREE again, and opens one whose WAITING grant has its
window active; a DRAINING grant completes where the close reaches SHUT at once. -/
theorem test_fault_clear :
    let faulty (x : Lane) : Lane := { x with faults := { obstruction := true, stuck := true }, gate := .released }
    let cleared (x : Lane) : Option (GateState × Option GrantState × Nat) :=
      after .faultClear (asking 51#8 [1#8] (one (faulty x)))
        (fun t => ((t.lane 0).gate, (t.lane 0).grant.map Grant.state, (t.lane 0).counts.completed))
    cleared { Lane.reset with mode := .held .openArm } = some (.opened, none, 0) ∧
      cleared { Lane.reset with mode := .held .freeArm } = some (.released, none, 0) ∧
      cleared { Lane.reset with grant := some aGrant, timer := some ⟨0, true, false⟩ } = some (.opened, some .opened, 0) ∧
      cleared { Lane.reset with
        armClosed := true, grant := some { aGrant with state := .draining, passages := 2, committed := true } } =
        some (.shut, none, 1) := by
  decide

/-- R118: the re-arm time running out clears OBSTRUCTION on a FREE lane, the gate going to CLOSING. -/
theorem test_rearm :
    after (.rearmTimerExpiry 1) (one { Lane.reset with
        faults := ⟨true, false⟩, gate := .released, rearm := .timing ⟨0, 2000⟩,
        settings := { Settings.reset with fault := .autoClear } })
      (fun t => ((t.lane 0).faults, (t.lane 0).gate)) = some (⟨false, false⟩, .closing ⟨0, 1500⟩) := by
  decide

/-- R110, R114: the edge that resumes a STOPPED lift restarts a paced lane's timer and leaves its carry mark clear. -/
theorem test_resuming_edge :
    after .carrierSyncEdge (one { Lane.reset with settings := { Settings.reset with pace := .paced } })
      (fun t => (t.pacing.lift, (t.lane 0).timer, (t.lane 0).carry, t.reports.records.map (·.body))) =
      some (.running, some ⟨0, true, false⟩, false, [.liftEvent .running]) := by
  decide

/-- R113: the sync-loss timer stops the lift. -/
theorem test_sync_loss :
    after .syncLoss { State.reset with pacing := { Pacing.reset with lift := .running, syncLoss := some 0 } }
      (fun t => (t.pacing.lift, t.trunk.causes.liftStopped)) = some (.stopped, true) := by
  decide

/-- R120: PACED to FREE clears a re-armed OBSTRUCTION; a lane that is no lane's is refused and nothing changes. -/
theorem test_lane_config :
    after .laneConfig (asking 52#8 (config 0#8 2#8 0#8 0#8 0#8) (one { Lane.reset with
        faults := ⟨true, false⟩, gate := .released, rearm := .rearmed,
        settings := { Settings.reset with pace := .paced, fault := .autoClear } }))
      (fun t => ((t.lane 0).faults, (t.lane 0).rearm, (t.lane 0).settings.pace)) = some (⟨false, false⟩, .idle, .free) ∧
      after .laneConfig (calm (asking 52#8 (9#8 :: zeros 17) State.reset)) sent =
        some (some [52#8, BitVec.ofNat 8 Result.badValue.code]) := by
  decide

/-- R136, R138: a day opening from NO_DAY, and its completion with a record whose window has ended. -/
theorem test_day_opening :
    after .dayOpen (asking 66#8 [48#8, 0#8, 0#8, 60#8] (holding [aRecord])) (fun t => (t.clock.dayState, t.passes.length)) =
        some (.opening 48 60 none, 1) ∧
      after .dayOpenComplete { holding [aRecord] with clock := { DayClock.reset with dayState := .opening 48 60 none } }
        (fun t => (t.clock.dayState, t.passes.length)) = some (.dayOpen 48, 0) := by
  decide

/-- R139: DAY_CLOSE ends the open grant and closes the day. -/
theorem test_day_close :
    after .dayClose (asking 67#8 [] opened)
      (fun t => (t.clock.dayState, (t.lane 0).grant, (t.lane 0).counts.lapsed, t.reports.records.length)) =
      some (.dayClosed 43, none, 1, 2) := by
  decide

/-- The commit of the worked case "a flexible pass with two closures": the record is REFUNDED with 24,550 and day 43. -/
theorem test_refund_commit :
    after .refundCommit (asking 81#8 [0#8, 0#8, 0#8, 0#8, 9#8] (refunding aRecord flexible (.dayOpen 43)))
      (fun t => (t.passes.map PassRecord.refund, t.reports.records.map (·.body))) =
      some ([some ⟨24550, 43⟩], [.refund 9 24550 43 2 0 2]) := by
  decide

/-- R133: 86,399 goes to 0 and the day state stays. -/
theorem test_midnight :
    after .clockSecond { State.reset with clock := { dayState := .dayOpen 7, timeOfDay := 86399, millisecond := 0, isSet := true } }
      (fun t => (t.clock.timeOfDay, t.clock.dayState)) = some (0, .dayOpen 7) := by
  decide

/-- R43: the third failed poll takes an ONLINE head OFFLINE with READER_LOST. -/
theorem test_third_timeout :
    after .pollTimeout (polling false { Lane.reset with
        reader := { ReaderContext.reset with state := .online, failures := 2, verdict := some .wait } })
      (fun t => ((t.lane 0).reader.state, (t.lane 0).reader.verdict, t.trunk.causes.readerLost,
        t.reports.records.map (·.body))) = some (.offline, none, 1#8, [.laneEvent 0 .readerLost]) := by
  decide

/-- R42: a reply that ends past the 3 ms fails its poll. -/
theorem test_late_reply :
    after (.replyReceived (idleReply 0)) (polling false Lane.reset 4)
      (fun t => ((t.lane 0).counts.readErrors, (t.lane 0).reader.failures, (t.lane 0).reader.state)) =
      some (1, 1, .offline) := by
  decide

/-- R171: the ATTENTION pending at power-up begins before any time passes, so it carries COLD_START alone, although the
first command takes the 1,500 ms of a close limit and ends in a fault. -/
theorem test_first_attention :
    after (.closeLimitExpiry 1) State.reset (fun t => (sent t, t.trunk.causes.laneFault)) =
      some (some [1#8, 0#8, 0#8], 1#8) := by
  decide

/-- R143: COUNTERS_READ ends in the clock state, here SET. -/
theorem test_counters_read_clock_state :
    after .countersRead (calm (asking 64#8 [1#8] (inDay (.dayOpen 43)))) (fun t => (sent t).map (List.drop 35)) =
      some (some [2#8, 1#8, 43#8, 0#8, 0#8, 0#8, 1#8]) := by
  decide

/-- An event that cannot occur changes nothing (log entry 2). -/
theorem test_no_event : exec (.loiter 1) State.reset = .next State.reset := rfl

end Sys2Proof.Tests
end

/-! The lanes changed one after another, and COUNTERS_CLEAR_SEASON (R131). -/

namespace Sys2Proof.Machine

/-! ## The eight lanes one after another -/

theorem mem_allLanes (l : Lane.Index) : l ∈ allLanes := by
  revert l
  decide

theorem allLanes_nodup : allLanes.Nodup := by decide

/-- The lanes of the part, read one by one. -/
theorem State.lanes_toList (s : State) : s.lanes.toList = allLanes.map s.lane := by
  have hall : allLanes = List.finRange 8 := by decide
  rw [hall]
  exact List.ext_getElem (by simp) (fun i _ _ => by simp [State.lane])

/-- Lanes that agree one by one are the same lanes. -/
theorem lanes_ext {v w : Vector Lane 8} (h : ∀ l : Lane.Index, v[l] = w[l]) : v = w :=
  Vector.ext fun i hi => h ⟨i, hi⟩

/-- Changing lanes one after another touches nothing but the lanes. -/
theorem State.foldl_modLane_frame (s : State) (f : Lane → Lane) (ls : List Lane.Index) :
    ls.foldl (fun s l => s.modLane l f) s =
      { s with lanes := (ls.foldl (fun s l => s.modLane l f) s).lanes } := by
  induction ls generalizing s with
  | nil => rfl
  | cons l ls ih => exact ih (s.modLane l f)

/-- Of lanes changed one after another each is changed once, and every other lane stays as it is. -/
theorem State.foldl_modLane_lane (s : State) (f : Lane → Lane) {ls : List Lane.Index} (hn : ls.Nodup)
    (k : Lane.Index) :
    (ls.foldl (fun s l => s.modLane l f) s).lane k = if k ∈ ls then f (s.lane k) else s.lane k := by
  induction ls generalizing s with
  | nil => rfl
  | cons l ls ih =>
    obtain ⟨hl, hn⟩ := List.nodup_cons.1 hn
    rw [List.foldl_cons, ih (s.modLane l f) hn]
    by_cases hk : k = l
    · subst hk
      simp [hl]
    · simp [State.lane_modLane_other s l k f hk, hk]

/-- A change made at every lane in turn is the map of the lanes. -/
theorem State.eachLane_modLane (s : State) (f : Lane → Lane) :
    s.eachLane (fun l s => s.modLane l f) = { s with lanes := s.lanes.map f } := by
  have hlanes : (s.eachLane (fun l s => s.modLane l f)).lanes = s.lanes.map f := lanes_ext fun l => by
    have hl := State.foldl_modLane_lane s f allLanes_nodup l
    rw [if_pos (mem_allLanes l)] at hl
    simpa [State.lane, State.eachLane] using hl
  rw [← hlanes]
  exact State.foldl_modLane_frame s f allLanes

/-! ## The lanes a selector names (R187) -/

theorem laneOf_above {n : Nat} (h : 8 < n) : laneOf n = none := dif_neg fun hn => by omega

theorem selectedLanes_above {n : Byte} (h : 8 < n.toNat) : selectedLanes n = none := by
  have hn : n ≠ 0#8 := by rintro rfl; exact absurd h (by decide)
  simp [selectedLanes, hn, laneOf_above h]

theorem selectedLanes_lane {n : Byte} {l : Lane.Index} (h : laneOf n.toNat = some l) : selectedLanes n = some [l] := by
  have hn : n ≠ 0#8 := by rintro rfl; cases h
  simp [selectedLanes, hn, h]

/-! ## COUNTERS_CLEAR_SEASON (R131) -/

/-- A selector that names no lane is refused. -/
theorem serveCountersClearSeason_none {n : Byte} (s : State) (h : selectedLanes n = none) :
    serveCountersClearSeason [n] s = .refuse s .badValue := by
  simp [serveCountersClearSeason, h]

/-- The lanes named give their season counters, and then clear them. -/
theorem serveCountersClearSeason_some {n : Byte} {ls : List Lane.Index} (s : State) (h : selectedLanes n = some ls) :
    serveCountersClearSeason [n] s =
      .answered (ls.foldl (fun s l => s.count l Counts.clearSeason) s) .ok
        (ls.flatMap (fun l => (s.lane l).counts.seasonItem)) := by
  simp [serveCountersClearSeason, h]

/-- A COUNTERS_CLEAR_SEASON that is taken is served by the count unit. -/
theorem exec_countersClearSeason_taken {s : State} {n : Byte} (h : s.takes 65#8 = some [n]) :
    exec .countersClearSeason s = .next (serveCountersClearSeason [n] s).finish.transmit := by
  show Host.Outcome.next (s.serve 65#8 serveCountersClearSeason) = _
  rw [State.serve_taken h]

open Sys2Proof.Safety in
/-- Settles O32: by what the selector names, no lane, one lane or all eight. -/
theorem seasonCountersCleared : Obligations.SeasonCountersCleared := by
  intro s n htake
  refine ⟨fun habove => ?_, fun l hl => ?_, fun hall => ?_⟩
  · rw [Answers, exec_countersClearSeason_taken htake, serveCountersClearSeason_none s (selectedLanes_above habove)]
    rfl
  · rw [Answers, exec_countersClearSeason_taken htake, serveCountersClearSeason_some s (selectedLanes_lane hl)]
    simp [Counts.seasonItem, State.count, State.modLane, Counts.clearSeason]
  · subst hall
    have hclear : allLanes.foldl (fun s l => s.count l Counts.clearSeason) s =
        { s with lanes := s.lanes.map (fun x => { x with counts := x.counts.clearSeason }) } :=
      State.eachLane_modLane s (fun x => { x with counts := x.counts.clearSeason })
    rw [Answers, exec_countersClearSeason_taken htake, serveCountersClearSeason_some s rfl, hclear, State.lanes_toList,
      List.flatMap_map]
    rfl

end Sys2Proof.Machine

/-! The accounts of grants (R129): what of a lane they rest on, and which operations leave that alone. -/

namespace Sys2Proof.Machine

/-- What the grant balance of a lane reads of it (R129). -/
structure GrantAccount where
  grants    : Nat
  completed : Nat
  lapsed    : Nat
  isOpen    : Bool

/-- The grant account of a lane. -/
def Lane.account (x : Lane) : GrantAccount :=
  { grants := x.counts.grants, completed := x.counts.completed, lapsed := x.counts.lapsed, isOpen := x.grant.isSome }

/-! ## Changes of a lane that leave its account alone -/

@[simp] theorem Lane.elapse_account (ms : Nat) (x : Lane) : (x.elapse ms).account = x.account := by
  simp [Lane.account, Lane.elapse]

@[simp] theorem Lane.deriveGrant_account (x : Lane) (lift : LiftState) : (x.deriveGrant lift).account = x.account := by
  unfold Lane.deriveGrant
  split
  · simp [Lane.account]
  · rfl

@[simp] theorem Lane.derive_account (x : Lane) (lift : LiftState) : (x.derive lift).account = x.account :=
  Lane.deriveGrant_account x lift

@[simp] theorem Lane.setBeam_account (x : Lane) (beam : Beam) (d : Debounce) :
    (x.setBeam beam d).account = x.account := by
  cases beam <;> rfl

@[simp] theorem Lane.loiterAfter_account (x : Lane) (r : Recognizer) (p : Option Direction) :
    (x.loiterAfter r p).account = x.account := by
  unfold Lane.loiterAfter
  split
  · rfl
  split
  · rfl
  split <;> rfl

@[simp] theorem Lane.beamAccepted_account (x : Lane) (beam : Beam) : (x.beamAccepted beam).account = x.account :=
  (Lane.loiterAfter_account _ _ _).trans (Lane.setBeam_account x beam _)

@[simp] theorem Lane.refault_account (x : Lane) (f : FaultMode) : (x.refault f).account = x.account := by
  cases f with
  | latched => rfl
  | autoClear =>
    simp only [Lane.refault]
    split <;> rfl

/-! ## Lanes and day state that an operation leaves alone -/

theorem State.lane_mapLanes (s : State) (f : Lane → Lane) (l : Lane.Index) :
    ({ s with lanes := mapLanes f s.lanes } : State).lane l = f (s.lane l) := by
  simp [State.lane]

@[simp] theorem State.dayCommit_lanes (s : State) (serial : Nat) : (s.dayCommit serial).lanes = s.lanes := by
  unfold State.dayCommit
  split <;> rfl

@[simp] theorem State.dayCommit_clock (s : State) (serial : Nat) : (s.dayCommit serial).clock = s.clock := by
  unfold State.dayCommit
  split <;> rfl

theorem State.lane_congr {s t : State} (h : t.lanes = s.lanes) (l : Lane.Index) : t.lane l = s.lane l := by
  rw [State.lane, State.lane, h]

@[simp] theorem Lane.vacate_grant (x : Lane) : x.vacate.grant = none := by
  unfold Lane.vacate
  split <;> rfl

@[simp] theorem Lane.vacate_counts (x : Lane) : x.vacate.counts = x.counts := by
  unfold Lane.vacate
  split <;> rfl

@[simp] theorem Lane.place_grant (x : Lane) (g : Grant) : (x.place g).grant = some g := by
  unfold Lane.place
  split <;> rfl

@[simp] theorem Lane.place_counts (x : Lane) (g : Grant) : (x.place g).counts = x.counts := by
  unfold Lane.place
  split <;> rfl

@[simp] theorem State.release_lane_same (s : State) (l : Lane.Index) (g : Grant) :
    (s.release l g).lane l = (s.lane l).vacate :=
  State.lane_modLane_same _ l _

theorem State.release_lane_other (s : State) {l k : Lane.Index} (g : Grant) (h : k ≠ l) :
    (s.release l g).lane k = s.lane k :=
  State.lane_modLane_other _ l k _ h

/-! ## What a request's owner leaves alone (R167) -/

/-- The state in which an owner leaves the part, before the request's condition follows. -/
def Served.state : Served → State
  | .answered s _ _ => s
  | .begun s => s

@[simp] theorem Served.finish_lanes (x : Served) : x.finish.lanes = x.state.lanes := by
  cases x <;> rfl

@[simp] theorem Served.finish_clock (x : Served) : x.finish.clock = x.state.clock := by
  cases x <;> rfl

/-- A request's owner leaves the lanes and the day state as they were in `s`. -/
structure Served.KeepsLanes (s : State) (x : Served) : Prop where
  lanes : x.state.lanes = s.lanes
  dayState : x.state.clock.dayState = s.clock.dayState

@[simp] theorem Served.keepsLanes_answered (s t : State) (r : Result) (bs : List Byte) :
    (Served.answered t r bs).KeepsLanes s ↔ t.lanes = s.lanes ∧ t.clock.dayState = s.clock.dayState :=
  ⟨fun ⟨hl, hd⟩ => ⟨hl, hd⟩, fun ⟨hl, hd⟩ => ⟨hl, hd⟩⟩

@[simp] theorem Served.keepsLanes_begun (s t : State) :
    (Served.begun t).KeepsLanes s ↔ t.lanes = s.lanes ∧ t.clock.dayState = s.clock.dayState :=
  ⟨fun ⟨hl, hd⟩ => ⟨hl, hd⟩, fun ⟨hl, hd⟩ => ⟨hl, hd⟩⟩

@[simp] theorem Served.keepsLanes_refuse (s : State) (r : Result) : (Served.refuse s r).KeepsLanes s := ⟨rfl, rfl⟩

@[simp] theorem State.writeBlock_lanes (s : State) (x : LoadTransaction) (bs : List Byte) :
    (s.writeBlock x bs).lanes = s.lanes := State.setBanks_lanes ..

@[simp] theorem State.writeBlock_clock (s : State) (x : LoadTransaction) (bs : List Byte) :
    (s.writeBlock x bs).clock = s.clock := State.setBanks_clock ..

@[simp] theorem DayClock.setTime_dayState (c : DayClock) (t : Nat) : (c.setTime t).dayState = c.dayState := rfl

@[simp] theorem State.commitRefund_lanes (s : State) (serial : Nat) (b : Breakdown) :
    (s.commitRefund serial b).lanes = s.lanes := State.append_lanes ..

@[simp] theorem State.commitRefund_clock (s : State) (serial : Nat) (b : Breakdown) :
    (s.commitRefund serial b).clock = s.clock := State.append_clock ..

/-! The owners that touch neither lane nor day state: so it is in every branch of their meanings. -/

theorem serveLoadBegin_keepsLanes (ps : List Byte) (s : State) : (serveLoadBegin ps s).KeepsLanes s := by
  fun_cases serveLoadBegin <;> simp

theorem serveLoadBlock_keepsLanes (ps : List Byte) (s : State) : (serveLoadBlock ps s).KeepsLanes s := by
  fun_cases serveLoadBlock <;> simp

theorem serveLoadEnd_keepsLanes (ps : List Byte) (s : State) : (serveLoadEnd ps s).KeepsLanes s := by
  fun_cases serveLoadEnd <;> simp

theorem serveLoadAbort_keepsLanes (ps : List Byte) (s : State) : (serveLoadAbort ps s).KeepsLanes s := by
  fun_cases serveLoadAbort <;> simp

theorem serveTableActivate_keepsLanes (ps : List Byte) (s : State) : (serveTableActivate ps s).KeepsLanes s := by
  fun_cases serveTableActivate <;> simp

theorem serveTableInfo_keepsLanes (ps : List Byte) (s : State) : (serveTableInfo ps s).KeepsLanes s := by
  fun_cases serveTableInfo <;> simp

theorem serveTableRead_keepsLanes (ps : List Byte) (s : State) : (serveTableRead ps s).KeepsLanes s := by
  fun_cases serveTableRead <;> simp

theorem servePassStore_keepsLanes (ps : List Byte) (s : State) : (servePassStore ps s).KeepsLanes s := by
  fun_cases servePassStore <;> exact ⟨rfl, rfl⟩

theorem servePassFetch_keepsLanes (ps : List Byte) (s : State) : (servePassFetch ps s).KeepsLanes s := by
  fun_cases servePassFetch <;> simp

theorem servePassRemove_keepsLanes (ps : List Byte) (s : State) : (servePassRemove ps s).KeepsLanes s := by
  fun_cases servePassRemove <;> exact ⟨rfl, rfl⟩

theorem servePassScan_keepsLanes (ps : List Byte) (s : State) : (servePassScan ps s).KeepsLanes s := by
  fun_cases servePassScan <;> simp

theorem serveCountersRead_keepsLanes (ps : List Byte) (s : State) : (serveCountersRead ps s).KeepsLanes s := by
  fun_cases serveCountersRead <;> simp

theorem serveTimeSet_keepsLanes (ps : List Byte) (s : State) : (serveTimeSet ps s).KeepsLanes s := by
  fun_cases serveTimeSet <;> simp

theorem serveRefundQuote_keepsLanes (ps : List Byte) (s : State) : (serveRefundQuote ps s).KeepsLanes s := by
  fun_cases serveRefundQuote <;> simp

theorem serveRefundCommit_keepsLanes (ps : List Byte) (s : State) : (serveRefundCommit ps s).KeepsLanes s := by
  fun_cases serveRefundCommit <;> simp

theorem serveReportConfig_keepsLanes (ps : List Byte) (s : State) : (serveReportConfig ps s).KeepsLanes s := by
  fun_cases serveReportConfig <;> simp

end Sys2Proof.Machine

/-! The grant balance is kept (R129): by the operations that several commands share, then by every command. -/

namespace Sys2Proof.Safety

open Sys2Proof.Machine

variable {s t : State} {l : Lane.Index}

/-! ## What the balance rests on -/

/-- The two halves of `AccountsSound`, named. A structure does not unfold, so that the states of two such facts are
compared, and not what the facts say of every lane. -/
structure Accounted (s : State) : Prop where
  inDay : GrantsInDay s
  balanced : ∀ l, Balanced (s.lane l)

theorem accounted_iff : Accounted s ↔ AccountsSound s :=
  ⟨fun ⟨hinDay, hbal⟩ => ⟨hinDay, hbal⟩, fun ⟨hinDay, hbal⟩ => ⟨hinDay, hbal⟩⟩

/-- The balance reads nothing of a lane but its account. -/
theorem Balanced.of_account {x y : Lane} (h : Balanced x) (ha : y.account = x.account) : Balanced y := by
  simp only [Lane.account, GrantAccount.mk.injEq] at ha
  obtain ⟨hgrants, hcompleted, hlapsed, hopen⟩ := ha
  unfold Balanced
  rw [hgrants, hcompleted, hlapsed, hopen]
  exact h

theorem grant_isSome_of_account {x y : Lane} (ha : y.account = x.account) : y.grant.isSome = x.grant.isSome :=
  congrArg GrantAccount.isOpen ha

/-- The accounts are sound after a change of one lane's account when that lane's balance and day are. -/
theorem Accounted.of_lane (h : Accounted s) (hday : t.clock.dayState = s.clock.dayState)
    (hother : ∀ k, k ≠ l → (t.lane k).account = (s.lane k).account) (hb : Balanced (t.lane l))
    (hopen : (t.lane l).grant.isSome = true → dayIsOpen s.clock.dayState = true) : Accounted t := by
  obtain ⟨hinDay, hbal⟩ := h
  constructor
  · intro k hk
    rw [hday]
    by_cases hkl : k = l
    · subst hkl
      exact hopen hk
    · exact hinDay k (grant_isSome_of_account (hother k hkl) ▸ hk)
  · intro k
    by_cases hkl : k = l
    · subst hkl
      exact hb
    · exact (hbal k).of_account (hother k hkl)

/-- The accounts are sound while every lane's account and the day state stay as they were. -/
theorem Accounted.of_accounts (h : Accounted s) (ha : ∀ k, (t.lane k).account = (s.lane k).account)
    (hday : t.clock.dayState = s.clock.dayState) : Accounted t :=
  h.of_lane (l := 0) hday (fun k _ => ha k) ((h.balanced 0).of_account (ha 0))
    (fun hk => h.inDay 0 (grant_isSome_of_account (ha 0) ▸ hk))

theorem Accounted.of_lanes (h : Accounted s) (hl : t.lanes = s.lanes)
    (hday : t.clock.dayState = s.clock.dayState) : Accounted t :=
  h.of_accounts (fun k => congrArg Lane.account (State.lane_congr hl k)) hday

/-- Without a grant on any lane, balanced lanes are all it takes, whatever the day state. -/
theorem accounted_of_no_grant (hnone : ∀ k, (t.lane k).grant = none) (hb : ∀ k, Balanced (t.lane k)) :
    Accounted t :=
  ⟨fun k hk => by simp [hnone k] at hk, hb⟩

/-- Outside DAY_OPEN no lane has a grant (R137). -/
theorem Accounted.no_grant (h : Accounted s) (hd : dayIsOpen s.clock.dayState = false) (k : Lane.Index) :
    (s.lane k).grant = none := by
  by_contra hne
  have hopen := h.inDay k (Option.isSome_iff_ne_none.2 hne)
  rw [hd] at hopen
  cases hopen

/-! ## Operations that leave every account alone -/

theorem account_modLane {f : Lane → Lane} (hf : (f (s.lane l)).account = (s.lane l).account) (k : Lane.Index) :
    ((s.modLane l f).lane k).account = (s.lane k).account := by
  by_cases hk : k = l
  · subst hk
    rw [State.lane_modLane_same, hf]
  · rw [State.lane_modLane_other s l k f hk]

/-- What every round of a fold leaves alone of the accounts, the fold leaves alone. -/
theorem account_foldl {α : Type} {f : State → α → State}
    (hf : ∀ s x k, ((f s x).lane k).account = (s.lane k).account) (xs : List α) (k : Lane.Index) :
    ((xs.foldl f s).lane k).account = (s.lane k).account :=
  List.foldlRecOn (motive := fun t => (t.lane k).account = (s.lane k).account) xs f rfl
    fun t ht x _ => (hf t x k).trans ht

theorem account_eachLane {f : Lane.Index → State → State}
    (hf : ∀ l s k, ((f l s).lane k).account = (s.lane k).account) (k : Lane.Index) :
    ((s.eachLane f).lane k).account = (s.lane k).account := by
  rw [State.eachLane]
  exact account_foldl (fun s l => hf l s) allLanes k

theorem account_derive (l : Lane.Index) (s : State) (k : Lane.Index) :
    ((s.derive l).lane k).account = (s.lane k).account :=
  account_modLane (f := fun x => x.derive s.pacing.lift) (Lane.derive_account _ _) k

theorem Accounted.modLane (h : Accounted s) {f : Lane → Lane} (hf : (f (s.lane l)).account = (s.lane l).account) :
    Accounted (s.modLane l f) :=
  h.of_accounts (account_modLane hf) rfl

theorem Accounted.count (h : Accounted s) {f : Counts → Counts}
    (hf : ({ s.lane l with counts := f (s.lane l).counts } : Lane).account = (s.lane l).account) :
    Accounted (s.count l f) :=
  h.modLane hf

theorem Accounted.transmit (h : Accounted s) : Accounted s.transmit := h.of_lanes (by simp) (by simp)

theorem Accounted.elapse (h : Accounted s) (ms : Nat) : Accounted (s.elapse ms) :=
  h.of_accounts (by simp) (by simp)

theorem Accounted.append (h : Accounted s) (b : RecordBody) : Accounted (s.append b) :=
  h.of_lanes (by simp) (by simp)

theorem Accounted.raise (h : Accounted s) (f : CauseSet → CauseSet) : Accounted (s.raise f) :=
  h.of_lanes rfl rfl

theorem Accounted.handVerdict (h : Accounted s) (v : Verdict) : Accounted (s.handVerdict l v) :=
  h.modLane rfl

theorem Accounted.derive (h : Accounted s) (l : Lane.Index) : Accounted (s.derive l) :=
  h.of_accounts (account_derive l s) rfl

theorem Accounted.deny (h : Accounted s) (l : Lane.Index) (r : DenialReason) : Accounted (s.deny l r) := by
  have hcount : Accounted (s.count l (fun c => { c with denials := satInc c.denials })) := h.count rfl
  exact (hcount.of_lanes (t := { s.count l _ with denials := _ }) rfl rfl).handVerdict _

/-- What every round of a fold keeps, the fold keeps. -/
theorem Accounted.foldl {α : Type} (h : Accounted s) {f : State → α → State} (xs : List α)
    (hf : ∀ s x, Accounted s → Accounted (f s x)) : Accounted (xs.foldl f s) :=
  List.foldlRecOn xs f h fun s hs x _ => hf s x hs

theorem Accounted.eachLane (h : Accounted s) {f : Lane.Index → State → State}
    (hf : ∀ l s, Accounted s → Accounted (f l s)) : Accounted (s.eachLane f) :=
  h.foldl allLanes fun s l => hf l s

theorem Accounted.atLane (h : Accounted s) (n : Nat) {f : Lane.Index → State} (hf : ∀ l, Accounted (f l)) :
    Accounted (s.atLane n f) := by
  unfold State.atLane
  split
  · exact hf _
  · exact h

/-- A step that is taken under a condition only. -/
theorem Accounted.when {c : Prop} [Decidable c] (h : Accounted s) (hf : Accounted s → Accounted t) :
    Accounted (if c then t else s) := by
  split
  · exact hf h
  · exact h

/-- A step that a condition holds back. -/
theorem Accounted.unless {c : Prop} [Decidable c] (h : Accounted s) (hf : Accounted s → Accounted t) :
    Accounted (if c then s else t) := by
  split
  · exact h
  · exact hf h

/-! ## A grant given (R69) -/

/-- A counter below saturation after its increase has risen by 1. -/
theorem satInc_of_lt {n : Nat} (h : satInc n < 65535) : satInc n = n + 1 ∧ n < 65535 := by
  simp only [satInc, Config.dailyMax] at h ⊢
  omega

/-- GRANTS rises with the grant that fills an empty slot. -/
theorem Balanced.of_place {x y : Lane} (h : Balanced x) (hx : x.grant = none) (hy : y.grant.isSome = true)
    (hc : y.counts = { x.counts with grants := satInc x.counts.grants }) : Balanced y := by
  rintro ⟨hgrants, hcompleted, hlapsed⟩
  rw [hc] at hgrants hcompleted hlapsed
  obtain ⟨hinc, hlt⟩ := satInc_of_lt hgrants
  have hb := h ⟨hlt, hcompleted, hlapsed⟩
  simp only [hx, Option.isSome_none, Bool.false_eq_true, if_false] at hb
  simp only [hy, hc, hinc, if_true]
  omega

/-- COMPLETED rises with a grant that leaves its slot. -/
theorem Balanced.of_completed {x y : Lane} (h : Balanced x) (hx : x.grant.isSome = true) (hy : y.grant = none)
    (hc : y.counts = { x.counts with completed := satInc x.counts.completed }) : Balanced y := by
  rintro ⟨hgrants, hcompleted, hlapsed⟩
  rw [hc] at hgrants hcompleted hlapsed
  obtain ⟨hinc, hlt⟩ := satInc_of_lt hcompleted
  have hb := h ⟨hgrants, hlt, hlapsed⟩
  simp only [hx, if_true] at hb
  simp only [hy, hc, hinc, Option.isSome_none, Bool.false_eq_true, if_false]
  omega

/-- LAPSED rises with a grant that leaves its slot. -/
theorem Balanced.of_lapsed {x y : Lane} (h : Balanced x) (hx : x.grant.isSome = true) (hy : y.grant = none)
    (hc : y.counts = { x.counts with lapsed := satInc x.counts.lapsed }) : Balanced y := by
  rintro ⟨hgrants, hcompleted, hlapsed⟩
  rw [hc] at hgrants hcompleted hlapsed
  obtain ⟨hinc, hlt⟩ := satInc_of_lt hlapsed
  have hb := h ⟨hgrants, hcompleted, hlt⟩
  simp only [hx, if_true] at hb
  simp only [hy, hc, hinc, Option.isSome_none, Bool.false_eq_true, if_false]
  omega

/-- The grant and its count together (R69), between which the balance does not hold. -/
theorem Accounted.place (h : Accounted s) (hnone : (s.lane l).grant = none)
    (hday : dayIsOpen s.clock.dayState = true) (g : Grant) :
    Accounted ((s.modLane l (fun x => x.place g)).count l (fun c => { c with grants := satInc c.grants })) := by
  refine h.of_lane (l := l) rfl (fun k hk => ?_) ?_ (fun _ => hday)
  · simp only [State.count, State.lane_modLane_other _ l k _ hk]
  · exact (h.balanced l).of_place hnone (by simp [State.count]) (by simp [State.count])

/-- A grant is given after its record has been made or locked, which touches no lane (R23, R24, R69). -/
theorem grantAt_cases (s : State) (l : Lane.Index) (sub : Subject) (p : Product) :
    ∃ r : State, r.lanes = s.lanes ∧ r.clock = s.clock ∧
      s.grantAt l sub p = State.derive (State.handVerdict
        ((r.modLane l (fun x => x.place (newGrant s l sub p))).count l (fun c => { c with grants := satInc c.grants }))
        l (.grant p.riders)) l := by
  refine ⟨_, ?_, ?_, rfl⟩ <;> split <;> simp

theorem Accounted.grantAt (h : Accounted s) (hnone : (s.lane l).grant = none)
    (hday : dayIsOpen s.clock.dayState = true) (sub : Subject) (p : Product) : Accounted (s.grantAt l sub p) := by
  obtain ⟨r, hlanes, hclock, heq⟩ := grantAt_cases s l sub p
  have hr : Accounted r := h.of_lanes hlanes (by rw [hclock])
  rw [heq]
  exact ((hr.place (by rw [State.lane_congr hlanes, hnone]) (by rw [hclock, hday]) _).handVerdict _).derive l

/-- A tap is granted in DAY_OPEN only (R58). -/
theorem dayIsOpen_of_decision {tap : Tap} {sub : Subject} {p : Product} (h : s.decision l tap = .grant sub p) :
    dayIsOpen s.clock.dayState = true := by
  unfold State.decision at h
  split at h
  · cases h
  split at h
  · cases h
  split at h
  · next hd => rw [hd]; rfl
  · cases h

theorem Accounted.decideTap (h : Accounted s) (hnone : (s.lane l).grant = none) (tap : Tap) :
    Accounted (s.decideTap l tap) := by
  unfold State.decideTap
  split
  · next hdec => exact h.grantAt hnone (dayIsOpen_of_decision hdec) _ _
  · refine Accounted.deny ?_ l _
    split
    · exact h.append _
    · exact h

theorem Accounted.arrive (h : Accounted s) (l : Lane.Index) (tap : Tap) : Accounted (s.arrive l tap) := by
  unfold State.arrive
  split
  · split
    · next hnone => exact h.decideTap hnone tap
    · split
      · exact h.handVerdict _
      · refine Accounted.handVerdict ?_ _
        exact h.modLane rfl
  · exact h
  · exact h.deny l _

theorem Accounted.takeUp (h : Accounted s) (hnone : (s.lane l).grant = none) : Accounted (s.takeUp l) := by
  unfold State.takeUp
  split
  · exact h
  · have hslot : Accounted (s.modLane l (fun x => { x with waiting := none })) := h.modLane rfl
    simp only []
    split
    · exact hslot.handVerdict _
    · exact hslot.decideTap (by simp [hnone]) _

/-! ## The ends of a grant (R92 to R97) -/

/-- A grant's end counted and its slot emptied: between the two the balance does not hold. -/
theorem Accounted.count_release (h : Accounted s) (hopen : (s.lane l).grant.isSome = true) {f : Counts → Counts}
    (b : RecordBody) (g : Grant)
    (hb : Balanced ({ s.lane l with counts := f (s.lane l).counts } : Lane).vacate) :
    Accounted (((s.count l f).append b).release l g) := by
  refine h.of_lane (l := l) (by simp [State.release]) (fun k hk => ?_) ?_ (fun _ => h.inDay l hopen)
  · rw [State.release_lane_other _ g hk, State.append_lane, State.count, State.lane_modLane_other s l k _ hk]
  · rw [State.release_lane_same, State.append_lane, State.count, State.lane_modLane_same]
    exact hb

theorem Accounted.reportCompleted_release (h : Accounted s) (hopen : (s.lane l).grant.isSome = true) (g : Grant) :
    Accounted ((s.reportCompleted l g).release l g) :=
  h.count_release hopen _ g ((h.balanced l).of_completed hopen (Lane.vacate_grant _) (Lane.vacate_counts _))

theorem Accounted.reportLapsed_release (h : Accounted s) (hopen : (s.lane l).grant.isSome = true) (g : Grant) :
    Accounted ((s.reportLapsed l g).release l g) :=
  h.count_release hopen _ g ((h.balanced l).of_lapsed hopen (Lane.vacate_grant _) (Lane.vacate_counts _))

theorem Accounted.reportEnd (h : Accounted s) (hopen : (s.lane l).grant.isSome = true) (g : Grant) :
    Accounted ((s.reportEnd l g).release l g) := by
  unfold State.reportEnd
  split
  · exact h.reportCompleted_release hopen g
  · exact h.reportLapsed_release hopen g

theorem Accounted.endHold (h : Accounted s) (l : Lane.Index) : Accounted (s.endHold l) := by
  unfold State.endHold
  split
  · exact Accounted.append (h.modLane rfl) _
  · exact h

theorem endHold_grant (s : State) (l : Lane.Index) : ((s.endHold l).lane l).grant = (s.lane l).grant := by
  unfold State.endHold
  split
  · simp
  · rfl

/-- A lane without a grant has none after a re-derivation. -/
theorem derive_grant_none (h : (s.lane l).grant = none) : ((s.derive l).lane l).grant = none := by
  exact Option.not_isSome_iff_eq_none.1 (by rw [grant_isSome_of_account (account_derive l s l), h]; simp)

/-- The steps after the slot has emptied (R94). -/
theorem Accounted.commonEnd {g : Grant} (h : Accounted (s.release l g)) : Accounted (s.commonEnd l g) := by
  refine Accounted.takeUp ((h.endHold l).derive l) (derive_grant_none ?_)
  rw [endHold_grant, State.release_lane_same, Lane.vacate_grant]

theorem Accounted.settle (h : Accounted s) (l : Lane.Index) : Accounted (s.settle l) := by
  unfold State.settle
  split
  · exact h
  · next hg =>
    split
    · exact (h.reportCompleted_release (by rw [hg]; rfl) _).commonEnd
    · exact h

theorem Accounted.rederive (h : Accounted s) (l : Lane.Index) : Accounted (s.rederive l) :=
  (h.derive l).settle l

end Sys2Proof.Safety

/-! The grant balance over the events that several commands bring about (R129): passages, faults, sync events, polls and
settings. -/

namespace Sys2Proof.Safety

open Sys2Proof.Machine

variable {s t : State} {l : Lane.Index}

/-! ## Passages (R80, R85 to R91) -/

/-- A grant replaced by another leaves the slot full. -/
theorem Accounted.setGrant (h : Accounted s) {g : Grant} (hg : (s.lane l).grant = some g) (g' : Grant) :
    Accounted (s.modLane l (fun x => { x with grant := some g' })) :=
  h.modLane (by simp [Lane.account, hg])

/-- A counted passage is counted, committed and noted before the grant changes, which touches no slot (R85). -/
theorem countedPassage_cases (s : State) (l : Lane.Index) (g : Grant) :
    ∃ r : State, r.clock = s.clock ∧
      r.lanes = (s.count l (fun c =>
        { c with riders := satInc c.riders, ridersSeason := wrapInc c.ridersSeason })).lanes ∧
      s.countedPassage l g =
        if g.forward.state = .draining then (r.modLane l (fun x => { x with grant := some g.forward })).rederive l
        else r.modLane l (fun x => { x with grant := some g.forward }) := by
  refine ⟨_, ?_, ?_, rfl⟩ <;> split <;> simp

theorem Accounted.countedPassage (h : Accounted s) {g : Grant} (hg : (s.lane l).grant = some g) :
    Accounted (s.countedPassage l g) := by
  obtain ⟨r, hclock, hlanes, heq⟩ := countedPassage_cases s l g
  have hr : Accounted r := Accounted.of_lanes (h.count rfl) hlanes (by rw [hclock]; rfl)
  have hgr : (r.lane l).grant = some g := by rw [State.lane_congr hlanes]; simp [State.count, hg]
  rw [heq]
  split
  · exact (hr.setGrant hgr _).rederive l
  · exact hr.setGrant hgr _

theorem Accounted.forwardPassage (h : Accounted s) (l : Lane.Index) : Accounted (s.forwardPassage l) := by
  unfold State.forwardPassage
  split
  · exact Accounted.append (h.count rfl) _
  · next hg =>
    split
    · exact h.countedPassage hg
    · exact Accounted.append (h.count rfl) _

theorem Accounted.reversePassage (h : Accounted s) (l : Lane.Index) : Accounted (s.reversePassage l) := by
  have hcount : Accounted (s.count l (fun c => { c with reverse := satInc c.reverse })) := h.count rfl
  simp only [State.reversePassage]
  split
  · exact hcount
  · next hg =>
    split
    · exact hcount
    · split
      · exact (hcount.setGrant hg _).rederive l
      · exact hcount.setGrant hg _

theorem Accounted.passage (h : Accounted s) (l : Lane.Index) (d : Direction) : Accounted (s.passage l d) := by
  unfold State.passage
  split
  · exact h.count rfl
  · exact h
  · cases d with
    | forward => exact h.forwardPassage l
    | reverse => exact h.reversePassage l

theorem Accounted.beamAccepted (h : Accounted s) (l : Lane.Index) (beam : Beam) :
    Accounted (s.beamAccepted l beam) := by
  have hlevel : Accounted (s.modLane l (fun x => x.beamAccepted beam)) := h.modLane (Lane.beamAccepted_account _ _)
  simp only [State.beamAccepted]
  split
  · exact hlevel
  · exact hlevel.passage l _

/-! ## Faults (R115, R119) -/

theorem Accounted.setFault (h : Accounted s) (l : Lane.Index) (k : FaultKind) : Accounted (s.setFault l k) := by
  unfold State.setFault
  split
  · exact h
  · have hset : Accounted (s.modLane l (fun x => x.setFault k)) := h.modLane rfl
    have hcount : Accounted (State.count (s.modLane l (fun x => x.setFault k)) l
        (fun c => { c with faults := satInc c.faults })) := hset.count rfl
    exact ((hcount.append _).raise _).rederive l

theorem Accounted.clearFaults (h : Accounted s) (l : Lane.Index) (k : FaultSet) :
    Accounted (s.clearFaults l k) := by
  refine Accounted.rederive ?_ l
  have hclear : Accounted (s.modLane l (fun x => x.clearFaults k)) := h.modLane rfl
  have hreport := hclear.foldl (f := fun s kind => s.append (.laneEvent l (.faultCleared kind)))
    (FaultSet.kinds { obstruction := (s.lane l).faults.obstruction && k.obstruction,
                      stuck := (s.lane l).faults.stuck && k.stuck })
    fun s _ hs => hs.append _
  split
  · exact hreport
  · exact Accounted.settle (hreport.modLane rfl) l

/-! ## Sync events and the lift (R111, R113, R114) -/

theorem Accounted.syncLane (h : Accounted s) (l : Lane.Index) : Accounted (s.syncLane l) := by
  unfold State.syncLane
  split
  · exact h
  · refine Accounted.unless ?_ fun h => h.rederive l
    refine Accounted.when ?_ fun h => h.clearFaults l _
    exact h.unless fun h => h.modLane rfl

theorem Accounted.setPacing (h : Accounted s) (p : Pacing) : Accounted { s with pacing := p } :=
  h.of_lanes rfl rfl

theorem Accounted.syncEvent (h : Accounted s) : Accounted s.syncEvent :=
  (h.setPacing _).eachLane fun l _ h => h.syncLane l

theorem Accounted.resumeLift (h : Accounted s) : Accounted s.resumeLift := (h.setPacing _).append _

theorem Accounted.stopLift (h : Accounted s) : Accounted s.stopLift := by
  unfold State.stopLift
  extract_lets pacing halted stilled closed reported
  have hhalted : Accounted halted := h.setPacing _
  have hstilled : Accounted stilled := hhalted.eachLane fun l s h => h.modLane (f := Lane.liftStop) rfl
  have hclosed : Accounted closed := hstilled.eachLane fun l _ h => h.when fun h => h.rederive l
  exact (hclosed.append _).raise _

/-! ## The lane bus (R39 to R49) -/

theorem Accounted.setBus (h : Accounted s) (b : Bus) : Accounted { s with bus := b } := h.of_lanes rfl rfl

theorem Accounted.sendPoll (h : Accounted s) (l : Lane.Index) : Accounted (s.sendPoll l) := by
  refine Accounted.setBus ?_ _
  exact h.modLane rfl

theorem Accounted.visit (h : Accounted s) (ls : List Lane.Index) : Accounted (State.visit ls s) := by
  induction ls generalizing s with
  | nil => exact h
  | cons l ls ih =>
    unfold State.visit
    split
    · exact ih h
    · split
      · exact h.sendPoll l
      · exact ih (h.modLane rfl)

theorem Accounted.failPoll (h : Accounted s) (l : Lane.Index) : Accounted (s.failPoll l) := by
  refine Accounted.when ?_ fun h => (h.append _).raise _
  refine Accounted.modLane ?_ rfl
  exact h.count rfl

theorem Accounted.credential (h : Accounted s) (l : Lane.Index) (c : Credential) :
    Accounted (s.credential l c) := by
  refine h.unless fun h => Accounted.arrive ?_ l _
  exact h.modLane rfl

theorem Accounted.goodReply (h : Accounted s) (p : Poll) (r : Reply) : Accounted (s.goodReply p r) := by
  have hread : Accounted (if (s.lane p.lane).reader.state = .offline then
      State.append (s.modLane p.lane (fun x => { x with reader := (s.lane p.lane).reader.answer p.verdict.isSome }))
        (.laneEvent p.lane .readerBack)
      else s.modLane p.lane (fun x => { x with reader := (s.lane p.lane).reader.answer p.verdict.isSome })) :=
    Accounted.when (h.modLane rfl) fun h => h.append _
  unfold State.goodReply
  split
  · exact hread.credential _ _
  · exact hread

theorem Accounted.judged (h : Accounted s) (p : Poll) (r : Option Reply) : Accounted (s.judged p r) := by
  refine Accounted.transmit (Accounted.visit ((h.setBus _).unless fun h => ?_) _)
  cases r with
  | none => exact h.failPoll _
  | some r => exact h.goodReply p r

/-! ## Holds, the obstruction input and lane reset (R101 to R104, R115 to R118, R123) -/

theorem Accounted.hold (h : Accounted s) (l : Lane.Index) : Accounted (s.hold l) := by
  unfold State.hold
  split
  · exact Accounted.rederive (Accounted.append (h.modLane rfl) _) l
  · refine Accounted.rederive (Accounted.modLane ?_ rfl) l
    split
    · exact h
    · exact Accounted.deny (h.modLane rfl) l _

theorem Accounted.unhold (h : Accounted s) (l : Lane.Index) : Accounted (s.unhold l) :=
  Accounted.rederive (Accounted.append (h.modLane rfl) _) l

theorem Accounted.obstructionAccepted (h : Accounted s) (l : Lane.Index) :
    Accounted (s.obstructionAccepted l) := by
  have haccept : Accounted (s.modLane l (fun x => { x with obstruction := x.obstruction.accept })) := h.modLane rfl
  simp only [State.obstructionAccepted]
  split
  · split
    · exact haccept.modLane rfl
    · exact haccept.setFault l _
  · exact haccept.when fun h => h.modLane rfl

theorem Accounted.rearmExpired (h : Accounted s) (l : Lane.Index) : Accounted (s.rearmExpired l) := by
  unfold State.rearmExpired
  split
  · exact h.clearFaults l _
  · exact h.modLane rfl

theorem Accounted.resetLane (h : Accounted s) (l : Lane.Index) : Accounted (s.resetLane l) := by
  refine Accounted.rederive (Accounted.when ?_ fun h => h.setFault l _) l
  refine Accounted.modLane (Accounted.endHold ?_ l) rfl
  split
  · exact h
  · next hg => exact h.reportLapsed_release (by rw [hg]; rfl) _

/-! ## Settings (R120, R121) -/

theorem Accounted.setSource (h : Accounted s) (src : PaceSource) : Accounted (s.setSource src) := by
  refine h.unless fun h => ?_
  cases src with
  | internal => exact (h.when fun h => h.resumeLift).setPacing _
  | external => exact h.setPacing _

theorem Accounted.checkSyncLoss (h : Accounted s) : Accounted s.checkSyncLoss := by
  unfold State.checkSyncLoss
  split
  · exact h.when fun h => h.stopLift
  · exact h

theorem Accounted.disableLane (h : Accounted s) (l : Lane.Index) : Accounted (s.disableLane l) := by
  refine Accounted.rederive (Accounted.when ?_ fun h => h.append _) l
  refine Accounted.setBus ?_ _
  exact h.modLane rfl

theorem Accounted.enableLane (h : Accounted s) (l : Lane.Index) : Accounted (s.enableLane l) :=
  Accounted.rederive (h.modLane rfl) l

theorem Accounted.setEnable (h : Accounted s) (l : Lane.Index) (v : Bool) : Accounted (s.setEnable l v) := by
  refine h.unless fun h => ?_
  split
  · exact h.enableLane l
  · exact h.disableLane l

theorem Accounted.setPace (h : Accounted s) (l : Lane.Index) (p : PaceMode) : Accounted (s.setPace l p) := by
  refine h.unless fun h => Accounted.rederive (Accounted.when ?_ fun h => h.clearFaults l _) l
  exact h.modLane rfl

theorem Accounted.setFaultMode (h : Accounted s) (l : Lane.Index) (f : FaultMode) :
    Accounted (s.setFaultMode l f) :=
  h.unless fun h => h.modLane (Lane.refault_account _ f)

/-- The three named settings keep the accounts in whatever order they are taken (log entries 13 and 25). -/
theorem Accounted.setNamed (h : Accounted s) (l : Lane.Index) (n : NamedSettings) :
    Accounted (s.setNamed l n) := by
  unfold State.setNamed
  extract_lets enable pace fault x
  have henable {s : State} (h : Accounted s) : Accounted (enable s) := by
    simp only [enable]
    split
    · exact h
    · exact h.setEnable l _
  have hpace {s : State} (h : Accounted s) : Accounted (pace s) := by
    simp only [pace]
    split
    · exact h
    · exact h.setPace l _
  have hfault {s : State} (h : Accounted s) : Accounted (fault s) := by
    simp only [fault]
    split
    · exact h
    · exact h.setFaultMode l _
  split
  · split
    · exact hfault (hpace (henable h))
    · exact hpace (hfault (henable h))
  · exact hfault (hpace (henable h))

end Sys2Proof.Safety

/-! The grant balance over every command (R129). -/

namespace Sys2Proof.Safety

open Sys2Proof.Machine

variable {s t : State} {l : Lane.Index}

/-- The one state that a command answers with. -/
theorem Accounted.of_next (h : Accounted s) (ht : Host.Outcome.next (φ := Fault) (ρ := Refusal) s = .next t) :
    Accounted t := by
  cases ht
  exact h

/-! ## Requests (R167) -/

theorem Accounted.serve (h : Accounted s) (code : Byte) {f : List Byte → State → Served}
    (hf : ∀ ps, Accounted (f ps s).state) : Accounted (s.serve code f) := by
  unfold State.serve
  split
  · exact Accounted.transmit ((hf _).of_lanes (Served.finish_lanes _) (by rw [Served.finish_clock]))
  · exact h

theorem Accounted.of_keepsLanes (h : Accounted s) {x : Served} (hx : x.KeepsLanes s) : Accounted x.state :=
  h.of_lanes hx.lanes hx.dayState

/-- A request whose owner touches no lane. -/
theorem Accounted.serve_keepsLanes (h : Accounted s) (code : Byte) {f : List Byte → State → Served}
    (hf : ∀ ps s, (f ps s).KeepsLanes s) : Accounted (s.serve code f) :=
  h.serve code fun ps => h.of_keepsLanes (hf ps s)

/-- A request that names a lane. -/
theorem Accounted.serve_lane (h : Accounted s) (code : Byte) {f : Lane.Index → State → Served}
    (hf : ∀ l, Accounted (f l s).state) : Accounted (s.serve code (serveLane f)) := by
  refine h.serve code fun ps => ?_
  unfold serveLane
  split
  · split
    · exact hf _
    · exact h
  · exact h

theorem Accounted.serveHold (h : Accounted s) (l : Lane.Index) : Accounted (serveHold l s).state := by
  unfold Machine.serveHold
  split
  · exact h.hold l
  · exact h
  · exact h

theorem Accounted.serveRelease (h : Accounted s) (l : Lane.Index) : Accounted (serveRelease l s).state := by
  unfold Machine.serveRelease
  split
  · exact h.unhold l
  · exact Accounted.rederive (h.modLane rfl) l
  · exact h
  · exact h

theorem Accounted.serveGateCommand (h : Accounted s) (ps : List Byte) : Accounted (serveGateCommand ps s).state := by
  unfold Machine.serveGateCommand
  split
  · split
    · split
      · exact Accounted.rederive (h.modLane rfl) _
      · exact h
    · exact h
  · exact h

theorem Accounted.serveFaultClear (h : Accounted s) (l : Lane.Index) : Accounted (serveFaultClear l s).state := by
  unfold Machine.serveFaultClear
  split
  · exact h
  split
  · exact h
  · exact h.clearFaults l _

theorem Accounted.serveLaneReset (h : Accounted s) (l : Lane.Index) : Accounted (serveLaneReset l s).state :=
  h.resetLane l

theorem Accounted.execLaneStatus (h : Accounted s) (ht : execLaneStatus s = .next t) : Accounted t := by
  refine Accounted.of_next (h.serve_lane _ fun _ => ?_) ht
  exact h

theorem Accounted.configureLane (h : Accounted s) (l : Lane.Index) (n : NamedSettings) (given : Nat → Bool)
    (value : Nat → Nat) : Accounted (s.configureLane l n given value).state := by
  unfold State.configureLane
  split
  · exact h
  · exact Accounted.setNamed (h.modLane rfl) l n

theorem Accounted.serveLaneConfig (h : Accounted s) (ps : List Byte) : Accounted (serveLaneConfig ps s).state := by
  unfold Machine.serveLaneConfig
  split
  · split
    · exact h
    · simp only []
      split
      · exact h.configureLane _ _ _ _
      · exact h
  · exact h

theorem Accounted.serveBankConfig (h : Accounted s) (ps : List Byte) : Accounted (serveBankConfig ps s).state := by
  unfold Machine.serveBankConfig
  split
  · extract_lets given pacing numbered numbers
    have hnumbers (src : Option PaceSource) : Accounted (numbers src).state := by
      refine Accounted.when ?_ fun h => h.checkSyncLoss
      split
      · exact h.setPacing _
      · exact (h.setPacing _).setSource _
    split
    · split
      · exact h
      · exact hnumbers (some _)
    · exact hnumbers none
  · exact h

theorem Accounted.serveCountersClearSeason (h : Accounted s) (ps : List Byte) :
    Accounted (serveCountersClearSeason ps s).state := by
  unfold Machine.serveCountersClearSeason
  split
  · split
    · exact h.foldl _ fun _ _ h => h.count rfl
    · exact h
  · exact h

/-! ## The operating day (R132, R136 to R139) -/

theorem balanced_clearDaily {x : Lane} (h : x.grant = none) : Balanced { x with counts := x.counts.clearDaily } := by
  simp [Balanced, h, Counts.clearDaily, Counts.reset]

theorem acceptOpening_lane (s : State) (d time : Nat) (former : Option Nat) (k : Lane.Index) :
    (s.acceptOpening d time former).lane k = { s.lane k with counts := (s.lane k).counts.clearDaily } :=
  State.lane_mapLanes s _ k

/-- A day is opened only where none is open. -/
theorem dayIsOpen_of_opens {x : DayState} {d : Nat} {former : Option Nat} (h : x.opens d = some former) :
    dayIsOpen x = false := by
  cases x with
  | dayOpen e => cases h
  | _ => rfl

/-- No grant stands when the opening of a day clears the daily counters (R136, R137). -/
theorem Accounted.serveDayOpen (h : Accounted s) (ps : List Byte) : Accounted (serveDayOpen ps s).state := by
  unfold Machine.serveDayOpen
  split
  · simp only []
    split
    · exact h
    · split
      · exact h
      · next hopens =>
        have hnone := h.no_grant (dayIsOpen_of_opens hopens)
        refine accounted_of_no_grant (fun k => ?_) (fun k => ?_) <;> rw [Served.state, acceptOpening_lane]
        · exact hnone k
        · exact balanced_clearDaily (hnone k)
  · exact h

/-- Grants may stand in whatever day is open. -/
theorem Accounted.of_dayOpen (h : Accounted s) (hl : t.lanes = s.lanes) (hd : dayIsOpen t.clock.dayState = true) :
    Accounted t :=
  ⟨fun _ _ => hd, fun k => by rw [State.lane_congr hl k]; exact h.balanced k⟩

theorem Accounted.completeOpening (h : Accounted s) (d time : Nat) : Accounted (s.completeOpening d time) :=
  h.of_dayOpen (by simp [State.completeOpening]) (by simp [State.completeOpening, dayIsOpen])

theorem Accounted.closeGrant (h : Accounted s) (l : Lane.Index) : Accounted (s.closeGrant l) := by
  unfold State.closeGrant
  split
  · exact h
  · next hg => exact (h.reportEnd (by rw [hg]; rfl) _).modLane rfl

theorem closeGrant_grant (s : State) (l : Lane.Index) : ((s.closeGrant l).lane l).grant = none := by
  unfold State.closeGrant
  split
  · next hnone => exact hnone
  · simp

theorem count_grant (s : State) (l k : Lane.Index) (f : Counts → Counts) :
    ((s.count l f).lane k).grant = (s.lane k).grant := by
  by_cases hk : k = l
  · subst hk
    simp [State.count]
  · rw [State.count, State.lane_modLane_other s l k _ hk]

theorem reportEnd_grant (s : State) (l k : Lane.Index) (g : Grant) :
    ((s.reportEnd l g).lane k).grant = (s.lane k).grant := by
  unfold State.reportEnd
  split
  · rw [State.reportCompleted, State.append_lane, count_grant]
  · rw [State.reportLapsed, State.append_lane, count_grant]

/-- Ending one lane's grant gives no other lane a grant. -/
theorem closeGrant_grant_none {k : Lane.Index} (h : (s.lane k).grant = none) :
    ((s.closeGrant l).lane k).grant = none := by
  by_cases hk : k = l
  · rw [hk, closeGrant_grant]
  · unfold State.closeGrant
    split
    · exact h
    · rw [State.lane_modLane_other _ l k _ hk, State.release_lane_other _ _ hk, reportEnd_grant, h]

theorem foldl_closeGrant_grant {ls : List Lane.Index} {k : Lane.Index} (h : k ∈ ls ∨ (s.lane k).grant = none) :
    ((ls.foldl (fun s l => s.closeGrant l) s).lane k).grant = none := by
  induction ls generalizing s with
  | nil => simpa using h
  | cons l ls ih =>
    refine ih ?_
    rcases h with hmem | hnone
    · rcases List.mem_cons.1 hmem with rfl | hmem
      · exact .inr (closeGrant_grant s k)
      · exact .inl hmem
    · exact .inr (closeGrant_grant_none hnone)

/-- Where no grant stands, what leaves every account alone keeps the accounts in any day state. -/
theorem Accounted.of_no_grant (h : Accounted s) (hnone : ∀ k, (s.lane k).grant = none)
    (ha : ∀ k, (t.lane k).account = (s.lane k).account) : Accounted t :=
  accounted_of_no_grant
    (fun k => Option.not_isSome_iff_eq_none.1 (by rw [grant_isSome_of_account (ha k), hnone k]; simp))
    (fun k => (h.balanced k).of_account (ha k))

theorem Accounted.closeDay (h : Accounted s) (d : Nat) : Accounted (s.closeDay d) := by
  unfold State.closeDay
  extract_lets holding ended noted released derived clock closed
  have hended : Accounted ended := h.eachLane fun l _ h => h.closeGrant l
  have hnone (k : Lane.Index) : (ended.lane k).grant = none := foldl_closeGrant_grant (.inl (mem_allLanes k))
  have hnoted (k : Lane.Index) : (noted.lane k).account = (ended.lane k).account :=
    account_foldl (fun s l k => by rw [State.append_lane]) holding k
  have hreleased (k : Lane.Index) : (released.lane k).account = (noted.lane k).account := by
    simp only [released, State.lane_mapLanes]
    rfl
  have hderived (k : Lane.Index) : (derived.lane k).account = (released.lane k).account :=
    account_eachLane account_derive k
  refine hended.of_no_grant hnone fun k => ?_
  rw [State.append_lane]
  exact (hderived k).trans ((hreleased k).trans (hnoted k))

theorem Accounted.serveDayClose (h : Accounted s) (ps : List Byte) : Accounted (serveDayClose ps s).state := by
  unfold Machine.serveDayClose
  split
  · split
    · exact h.closeDay _
    · exact h
  · exact h

theorem Accounted.tick (h : Accounted s) : Accounted { s with clock := s.clock.tick } := h.of_lanes rfl rfl

theorem Accounted.execClockSecond (h : Accounted s) (ht : execClockSecond s = .next t) : Accounted t :=
  (h.elapse _).tick.transmit.of_next ht

/-! ## Starts (R132, R141, R177) -/

theorem coldStart_lane (s : State) (k : Lane.Index) : s.coldStart.lane k = (s.lane k).coldStart :=
  State.lane_mapLanes s _ k

theorem warmStart_lane (s : State) (k : Lane.Index) : s.warmStart.lane k = (s.lane k).warmStart :=
  State.lane_mapLanes s _ k

theorem accounted_coldStart (s : State) : Accounted s.coldStart := by
  refine accounted_of_no_grant (fun k => ?_) (fun k => ?_) <;> rw [coldStart_lane]
  · rfl
  · exact fun _ => rfl

/-- A warm start counts each grant it ends as LAPSED. -/
theorem Balanced.warmStart {x : Lane} (h : Balanced x) : Balanced x.warmStart := by
  cases hx : x.grant with
  | none => exact h.of_account (by simp [Lane.account, Lane.warmStart, Lane.placeBeams, hx])
  | some g => exact h.of_lapsed (by rw [hx]; rfl) rfl (by simp [Lane.warmStart, Lane.placeBeams, hx])

theorem Accounted.warmStart (h : Accounted s) : Accounted s.warmStart := by
  refine accounted_of_no_grant (fun k => ?_) (fun k => ?_) <;> rw [warmStart_lane]
  · rfl
  · exact (h.balanced k).warmStart

/-! ## The trunk (R163 to R171) -/

theorem Accounted.setTrunk (h : Accounted s) (x : Trunk) : Accounted { s with trunk := x } := h.of_lanes rfl rfl

theorem Accounted.answer (h : Accounted s) (r : Result) (bs : List Byte) : Accounted (s.answer r bs) := h.setTrunk _

theorem Accounted.setReceiver (h : Accounted s) (r : Receiver) : Accounted (s.setReceiver r) := h.setTrunk _

theorem Accounted.setReports (h : Accounted s) (q : ReportQueue) : Accounted { s with reports := q } :=
  h.of_lanes rfl rfl

theorem Accounted.goodFrame (h : Accounted s) (kind tag : Byte) (payload : List Byte) :
    Accounted (s.goodFrame kind tag payload) := by
  unfold State.goodFrame State.offerRequest
  split
  · split
    · exact h.setTrunk _
    · split
      · exact h.setTrunk _
      · exact h
  · split
    · exact h.setReports _
    · split
      · exact h.setReports _
      · exact h

theorem Accounted.receiveByte (h : Accounted s) (b : Byte) : Accounted (s.receiveByte b) := by
  unfold State.receiveByte
  split
  · exact h.when fun h => h.setReceiver _
  · split
    · exact h.setReceiver _
    · exact (h.setReceiver _).transmit
    · exact ((h.setReceiver _).goodFrame _ _ _).transmit

theorem Accounted.receive (h : Accounted s) (bytes : List Byte) : Accounted (s.receive bytes) :=
  h.foldl bytes fun _ b h => h.receiveByte b

theorem Accounted.frameEnded (h : Accounted s) (f : OutFrame) : Accounted (s.frameEnded f) := by
  unfold State.frameEnded
  split
  · exact (h.setTrunk _).when fun h => h.warmStart
  · exact h.setTrunk _
  · exact h.setTrunk _

theorem Accounted.completeCheck (h : Accounted s) (x : LoadTransaction) (expected : Signature) :
    Accounted (s.completeCheck x expected) := by
  unfold State.completeCheck
  extract_lets b computed close
  have hclose (y : ShadowState) : Accounted (close y) := h.of_lanes (by simp [close]) (by simp [close])
  split
  · exact (hclose _).answer _ _
  · split
    · exact (hclose _).answer _ _
    · exact (hclose _).answer _ _

/-! ## The commands of the lanes and of the part's timers -/

theorem Accounted.execBeamInputChange (h : Accounted s) (n : Nat) (beam : Beam) (blocked : Bool)
    (ht : execBeamInputChange n beam blocked s = .next t) : Accounted t := by
  refine Accounted.of_next (h.atLane n fun l => h.unless fun h => Accounted.transmit ?_) ht
  exact h.modLane (Lane.setBeam_account _ _ _)

theorem Accounted.execBeamChangeAccepted (h : Accounted s) (n : Nat) (beam : Beam)
    (ht : execBeamChangeAccepted n beam s = .next t) : Accounted t := by
  refine Accounted.of_next (h.atLane n fun l => ?_) ht
  split
  · exact h
  · exact ((h.elapse _).beamAccepted l beam).transmit

theorem Accounted.execLoiter (h : Accounted s) (n : Nat) (ht : execLoiter n s = .next t) : Accounted t := by
  refine Accounted.of_next (h.atLane n fun l => ?_) ht
  split
  · exact h
  · next timer _ =>
    have hmarked : Accounted ((s.elapse timer.left).modLane l (fun x =>
        { x with loiterTimer := none, loiterMark := true })) := (h.elapse _).modLane rfl
    exact (hmarked.unless fun h => Accounted.append (h.count rfl) _).transmit

theorem Accounted.execGrantDeadline (h : Accounted s) (n : Nat) (ht : execGrantDeadline n s = .next t) :
    Accounted t := by
  refine Accounted.of_next (h.atLane n fun l => ?_) ht
  split
  · exact h
  · next g hg =>
    have hopen : ((s.elapse g.lifetime.left).lane l).grant.isSome = true := by
      rw [State.elapse_lane, grant_isSome_of_account (Lane.elapse_account _ _), hg]
      rfl
    exact ((h.elapse _).reportEnd hopen g).commonEnd.transmit

theorem Accounted.execArmClosed (h : Accounted s) (n : Nat) (active : Bool) (ht : execArmClosed n active s = .next t) :
    Accounted t :=
  (h.atLane n fun l => h.unless fun h => (Accounted.settle (h.modLane rfl) l).transmit).of_next ht

theorem Accounted.execCloseLimitExpiry (h : Accounted s) (n : Nat) (ht : execCloseLimitExpiry n s = .next t) :
    Accounted t := by
  refine Accounted.of_next (h.atLane n fun l => ?_) ht
  split
  · exact ((h.elapse _).setFault l _).transmit
  · exact h

theorem Accounted.execObstructionInputChange (h : Accounted s) (n : Nat) (active : Bool)
    (ht : execObstructionInputChange n active s = .next t) : Accounted t :=
  (h.atLane n fun _ => h.unless fun h => Accounted.transmit (h.modLane rfl)).of_next ht

theorem Accounted.execObstructionChangeAccepted (h : Accounted s) (n : Nat)
    (ht : execObstructionChangeAccepted n s = .next t) : Accounted t := by
  refine Accounted.of_next (h.atLane n fun l => ?_) ht
  split
  · exact h
  · exact ((h.elapse _).obstructionAccepted l).transmit

theorem Accounted.execRearmTimerExpiry (h : Accounted s) (n : Nat) (ht : execRearmTimerExpiry n s = .next t) :
    Accounted t := by
  refine Accounted.of_next (h.atLane n fun l => ?_) ht
  split
  · exact ((h.elapse _).rearmExpired l).transmit
  · exact h

theorem Accounted.execWindowOpenAt (h : Accounted s) (n : Nat) (ht : execWindowOpenAt n s = .next t) :
    Accounted t := by
  refine Accounted.of_next (h.atLane n fun l => ?_) ht
  split
  · exact h
  · exact h.unless fun h => (Accounted.rederive ((h.elapse _).modLane rfl) l).transmit

theorem Accounted.execWindowCloseAt (h : Accounted s) (n : Nat) (ht : execWindowCloseAt n s = .next t) :
    Accounted t := by
  refine Accounted.of_next (h.atLane n fun l => ?_) ht
  split
  · exact h.unless fun h => (Accounted.rederive ((h.elapse _).modLane rfl) l).transmit
  · exact h

theorem Accounted.execCarrierSyncEdge (h : Accounted s) (ht : execCarrierSyncEdge s = .next t) : Accounted t :=
  (h.when fun h => ((h.when fun h => h.resumeLift).setPacing _).syncEvent.transmit).of_next ht

theorem Accounted.execInternalCarrierTick (h : Accounted s) (ht : execInternalCarrierTick s = .next t) :
    Accounted t := by
  refine Accounted.of_next ?_ ht
  split
  · exact h
  · exact ((h.elapse _).setPacing _).syncEvent.transmit

theorem Accounted.execSyncLoss (h : Accounted s) (ht : execSyncLoss s = .next t) : Accounted t := by
  refine Accounted.of_next ?_ ht
  split
  · exact h
  · exact (h.elapse _).stopLift.transmit

theorem Accounted.execRoundStart (h : Accounted s) (ht : execRoundStart s = .next t) : Accounted t := by
  refine Accounted.of_next ?_ ht
  split
  · exact h
  · exact (((h.elapse _).setBus _).visit _).transmit

theorem Accounted.execReplyReceived (h : Accounted s) (bytes : List Byte) (ht : execReplyReceived bytes s = .next t) :
    Accounted t := by
  refine Accounted.of_next ?_ ht
  split
  · exact h.judged _ _
  · exact h

theorem Accounted.execPollTimeout (h : Accounted s) (ht : execPollTimeout s = .next t) : Accounted t := by
  refine Accounted.of_next ?_ ht
  split
  · exact h
  · exact (h.elapse _).judged _ _

theorem Accounted.execDwellExpiry (h : Accounted s) (ht : execDwellExpiry s = .next t) : Accounted t := by
  refine Accounted.of_next ?_ ht
  split
  · exact h
  · exact ((h.elapse _).setReports _).transmit

theorem Accounted.execFrameSent (h : Accounted s) (ht : execFrameSent s = .next t) : Accounted t := by
  refine Accounted.of_next ?_ ht
  split
  · exact h
  · exact (h.frameEnded _).transmit

theorem Accounted.execUnknownRequest (h : Accounted s) (ht : execUnknownRequest s = .next t) : Accounted t := by
  refine Accounted.of_next ?_ ht
  split
  · exact h
  · split
    · exact (h.answer _ _).transmit
    · exact h.unless fun h => (h.answer _ _).transmit

theorem Accounted.execLoadCheckComplete (h : Accounted s) (ht : execLoadCheckComplete s = .next t) : Accounted t := by
  refine Accounted.of_next ?_ ht
  split
  · exact h
  · split
    · exact h
    · exact (h.completeCheck _ _).transmit

theorem Accounted.execDayOpenComplete (h : Accounted s) (ht : execDayOpenComplete s = .next t) : Accounted t := by
  refine Accounted.of_next ?_ ht
  split
  · exact (h.completeOpening _ _).transmit
  · exact h

theorem Accounted.execIdent (h : Accounted s) (ht : execIdent s = .next t) : Accounted t := by
  refine (h.serve_keepsLanes _ fun ps s => ?_).of_next ht
  split <;> simp

theorem Accounted.execStatusRead (h : Accounted s) (ht : execStatusRead s = .next t) : Accounted t := by
  refine (h.serve_keepsLanes _ fun ps s => ?_).of_next ht
  split <;> simp

theorem Accounted.execUnitReset (h : Accounted s) (ht : execUnitReset s = .next t) : Accounted t := by
  refine (h.serve_keepsLanes _ fun ps s => ?_).of_next ht
  split <;> simp

/-! ## Every command -/

/-- Each command keeps the accounts, by the operations it is made of. -/
theorem Accounted.of_exec (h : Accounted s) (i : Instr) (ht : exec i s = .next t) : Accounted t := by
  cases i with
  | coldStart => exact (accounted_coldStart s).transmit.of_next ht
  | warmStart => exact h.warmStart.transmit.of_next ht
  | requestArrival bytes => exact (h.receive bytes).of_next ht
  | frameDiscarded bytes => exact (h.receive bytes).of_next ht
  | frameSilenceTimeout bytes => exact (((h.receive bytes).elapse _).setReceiver _).of_next ht
  | unexpectedFrame bytes => exact (h.receive bytes).of_next ht
  | pauseReports bytes => exact (h.receive bytes).of_next ht
  | resumeReports bytes => exact (h.receive bytes).of_next ht
  | unknownRequest => exact h.execUnknownRequest ht
  | ident => exact h.execIdent ht
  | statusRead => exact h.execStatusRead ht
  | unitReset => exact h.execUnitReset ht
  | loadBegin => exact (h.serve_keepsLanes _ serveLoadBegin_keepsLanes).of_next ht
  | loadBlock => exact (h.serve_keepsLanes _ serveLoadBlock_keepsLanes).of_next ht
  | loadEnd => exact (h.serve_keepsLanes _ serveLoadEnd_keepsLanes).of_next ht
  | loadCheckComplete => exact h.execLoadCheckComplete ht
  | loadAbort => exact (h.serve_keepsLanes _ serveLoadAbort_keepsLanes).of_next ht
  | tableActivate => exact (h.serve_keepsLanes _ serveTableActivate_keepsLanes).of_next ht
  | tableInfo => exact (h.serve_keepsLanes _ serveTableInfo_keepsLanes).of_next ht
  | tableRead => exact (h.serve_keepsLanes _ serveTableRead_keepsLanes).of_next ht
  | passStore => exact (h.serve_keepsLanes _ servePassStore_keepsLanes).of_next ht
  | passFetch => exact (h.serve_keepsLanes _ servePassFetch_keepsLanes).of_next ht
  | passRemove => exact (h.serve_keepsLanes _ servePassRemove_keepsLanes).of_next ht
  | passScan => exact (h.serve_keepsLanes _ servePassScan_keepsLanes).of_next ht
  | laneHold => exact (h.serve_lane _ fun l => h.serveHold l).of_next ht
  | laneRelease => exact (h.serve_lane _ fun l => h.serveRelease l).of_next ht
  | gateCommand => exact (h.serve _ fun ps => h.serveGateCommand ps).of_next ht
  | faultClear => exact (h.serve_lane _ fun l => h.serveFaultClear l).of_next ht
  | laneConfig => exact (h.serve _ fun ps => h.serveLaneConfig ps).of_next ht
  | bankConfig => exact (h.serve _ fun ps => h.serveBankConfig ps).of_next ht
  | laneStatus => exact h.execLaneStatus ht
  | laneReset => exact (h.serve_lane _ fun l => h.serveLaneReset l).of_next ht
  | countersRead => exact (h.serve_keepsLanes _ serveCountersRead_keepsLanes).of_next ht
  | countersClearSeason => exact (h.serve _ fun ps => h.serveCountersClearSeason ps).of_next ht
  | dayOpen => exact (h.serve _ fun ps => h.serveDayOpen ps).of_next ht
  | dayOpenComplete => exact h.execDayOpenComplete ht
  | dayClose => exact (h.serve _ fun ps => h.serveDayClose ps).of_next ht
  | timeSet => exact (h.serve_keepsLanes _ serveTimeSet_keepsLanes).of_next ht
  | refundQuote => exact (h.serve_keepsLanes _ serveRefundQuote_keepsLanes).of_next ht
  | refundCommit => exact (h.serve_keepsLanes _ serveRefundCommit_keepsLanes).of_next ht
  | reportConfig => exact (h.serve_keepsLanes _ serveReportConfig_keepsLanes).of_next ht
  | frameSent => exact h.execFrameSent ht
  | dwellExpiry => exact h.execDwellExpiry ht
  | roundStart => exact h.execRoundStart ht
  | replyReceived bytes => exact h.execReplyReceived bytes ht
  | pollTimeout => exact h.execPollTimeout ht
  | beamInputChange n beam blocked => exact h.execBeamInputChange n beam blocked ht
  | beamChangeAccepted n beam => exact h.execBeamChangeAccepted n beam ht
  | loiter n => exact h.execLoiter n ht
  | grantDeadline n => exact h.execGrantDeadline n ht
  | armClosed n active => exact h.execArmClosed n active ht
  | closeLimitExpiry n => exact h.execCloseLimitExpiry n ht
  | obstructionInputChange n active => exact h.execObstructionInputChange n active ht
  | obstructionChangeAccepted n => exact h.execObstructionChangeAccepted n ht
  | rearmTimerExpiry n => exact h.execRearmTimerExpiry n ht
  | windowOpenAt n => exact h.execWindowOpenAt n ht
  | windowCloseAt n => exact h.execWindowCloseAt n ht
  | carrierSyncEdge => exact h.execCarrierSyncEdge ht
  | internalCarrierTick => exact h.execInternalCarrierTick ht
  | syncLoss => exact h.execSyncLoss ht
  | clockSecond => exact h.execClockSecond ht

theorem Accounted.setPending (h : Accounted s) (cs : List Instr) : Accounted { s with pending := cs } :=
  h.of_lanes rfl rfl

/-- A step runs the command at the front, or lets a millisecond pass. -/
theorem Accounted.of_step (h : Accounted s) (ht : step s = .next t) : Accounted t := by
  unfold step at ht
  split at ht
  · exact (h.elapse 1).of_next ht
  · exact (h.setPending _).of_exec _ ht

/-- Settles O60: the accounts are kept by every operation and so by every command, and cold start empties them. -/
theorem stepsKeepTheGrantBalance : Obligations.StepsKeepTheGrantBalance := by
  refine ⟨fun s t h ht => accounted_iff.1 ((accounted_iff.2 h).of_step ht), fun s => ?_⟩
  refine ⟨s.coldStart.transmit, rfl, fun l => ?_⟩
  rw [State.transmit_lane, coldStart_lane]
  exact ⟨rfl, rfl, rfl, rfl⟩

end Sys2Proof.Safety

/-! The fee and the rounding step of a refund (R155, R156). -/

namespace Sys2Proof.Machine

/-! ## The fee and the step as a product lookup gives them (R2) -/

/-- A product that is looked up has the entry's fee and step as used. -/
theorem lookupProduct_fee_step {m : Memory} {code : Nat} {p : Product} (h : lookupProduct m code = some p) :
    p.fee = min 99999 (productField m code 14 3) ∧ p.step = stepAsUsed (productField m code 20 2) := by
  unfold lookupProduct at h
  split at h
  · cases h
  · split at h
    · cases h
    · cases h
      exact ⟨rfl, rfl⟩

theorem stepAsUsed_of_mem {n : Nat} (h : n ∈ [1, 5, 10, 25, 50, 100]) : stepAsUsed n = n := if_pos h

theorem stepAsUsed_of_not_mem {n : Nat} (h : n ∉ [1, 5, 10, 25, 50, 100]) : stepAsUsed n = 1 := if_neg h

theorem stepAsUsed_mem (n : Nat) : stepAsUsed n ∈ [1, 5, 10, 25, 50, 100] := by
  by_cases h : n ∈ [1, 5, 10, 25, 50, 100]
  · rwa [stepAsUsed_of_mem h]
  · rw [stepAsUsed_of_not_mem h]
    decide

theorem stepAsUsed_pos (n : Nat) : 0 < stepAsUsed n := by
  have hpos : ∀ k ∈ [1, 5, 10, 25, 50, 100], 0 < k := by decide
  exact hpos _ (stepAsUsed_mem n)

/-! ## The stages of a refund that take the fee and round (R155, R156) -/

/-- The subtraction is cut off at 0, which is the second case of R155. -/
theorem computeRefund_afterFee (r : PassRecord) (p : Product) (days : Memory) (t : Nat) :
    (computeRefund r p days t).afterFee = (computeRefund r p days t).gross - p.fee := rfl

theorem computeRefund_rounded (r : PassRecord) (p : Product) (days : Memory) (t : Nat) :
    (computeRefund r p days t).rounded = (computeRefund r p days t).afterFee / p.step * p.step := rfl

/-- Settles O37: the lookup bounds the fee and gives one of the six steps, and rounding down to a positive step loses less
than the step. -/
theorem feeAndRounding : Obligations.FeeAndRounding := by
  intro r p m days t code hp b
  obtain ⟨hfee, hstep⟩ := lookupProduct_fee_step hp
  have hafter : b.afterFee = b.gross - p.fee := computeRefund_afterFee r p days t
  have hrounded : b.rounded = b.afterFee / p.step * p.step := computeRefund_rounded r p days t
  have hpos : 0 < p.step := hstep ▸ stepAsUsed_pos _
  refine ⟨?fee, ?afterFee, ?feeIsGross, ?steps, ?stored, ?notAStep, hrounded, ?multiple, ?atMost, ?lessThanStep, ?stepOne⟩
  case fee => exact hfee ▸ Nat.min_le_left ..
  case afterFee =>
    rw [hafter]
    split <;> omega
  case feeIsGross => omega
  case steps => simpa [hstep] using stepAsUsed_mem (productField m code 20 2)
  case stored => exact fun h => hstep.trans (stepAsUsed_of_mem h)
  case notAStep => exact fun h => hstep.trans (stepAsUsed_of_not_mem h)
  case multiple => exact hrounded ▸ Nat.dvd_mul_left ..
  case atMost => exact hrounded ▸ Nat.div_mul_le_self ..
  case lessThanStep => exact hrounded ▸ Nat.lt_div_mul_add hpos
  case stepOne =>
    intro hone
    rw [hrounded, hone, Nat.div_one, Nat.mul_one]

end Sys2Proof.Machine

/-! What an event at one lane leaves alone: the other lanes and every block that the event does not reach. -/

namespace Sys2Proof.Machine

variable {s t u : State} {l : Lane.Index}

/-- From `s` to `t` only lane `l`, the pass usage table, the counters, the report queue and the attention have
changed. -/
structure LocalTo (l : Lane.Index) (s t : State) : Prop where
  lane : ∀ k, k ≠ l → t.lane k = s.lane k
  products : t.products = s.products
  hotList : t.hotList = s.hotList
  days : t.days = s.days
  load : t.load = s.load
  bus : t.bus = s.bus
  pacing : t.pacing = s.pacing
  clock : t.clock = s.clock
  pending : t.pending = s.pending
  queue : t.trunk.queue = s.trunk.queue
  resetting : t.trunk.resetting = s.trunk.resetting

theorem LocalTo.refl (l : Lane.Index) (s : State) : LocalTo l s s :=
  ⟨fun _ _ => rfl, rfl, rfl, rfl, rfl, rfl, rfl, rfl, rfl, rfl, rfl⟩

theorem LocalTo.trans (h : LocalTo l s t) (h' : LocalTo l t u) : LocalTo l s u where
  lane k hk := (h'.lane k hk).trans (h.lane k hk)
  products := h'.products.trans h.products
  hotList := h'.hotList.trans h.hotList
  days := h'.days.trans h.days
  load := h'.load.trans h.load
  bus := h'.bus.trans h.bus
  pacing := h'.pacing.trans h.pacing
  clock := h'.clock.trans h.clock
  pending := h'.pending.trans h.pending
  queue := h'.queue.trans h.queue
  resetting := h'.resetting.trans h.resetting

/-! ## The operations of an event at a lane, each after the ones before it -/

theorem LocalTo.modLane (h : LocalTo l s t) (f : Lane → Lane) : LocalTo l s (t.modLane l f) :=
  h.trans ⟨fun k hk => State.lane_modLane_other t l k f hk, rfl, rfl, rfl, rfl, rfl, rfl, rfl, rfl, rfl, rfl⟩

theorem LocalTo.append (h : LocalTo l s t) (b : RecordBody) : LocalTo l s (t.append b) := by
  obtain ⟨hqueue, -, -, -, -, -, hresetting⟩ := State.append_trunk t b
  exact h.trans ⟨by simp, by simp, by simp, by simp, by simp, by simp, by simp, by simp, by simp, hqueue, hresetting⟩

theorem LocalTo.raise (h : LocalTo l s t) (f : CauseSet → CauseSet) : LocalTo l s (t.raise f) :=
  h.trans ⟨fun _ _ => rfl, rfl, rfl, rfl, rfl, rfl, rfl, rfl, rfl, rfl, rfl⟩

theorem LocalTo.setPasses (h : LocalTo l s t) (ps : List PassRecord) : LocalTo l s { t with passes := ps } :=
  h.trans ⟨fun _ _ => rfl, rfl, rfl, rfl, rfl, rfl, rfl, rfl, rfl, rfl, rfl⟩

theorem LocalTo.setDenials (h : LocalTo l s t) (v : Vector Nat 20) : LocalTo l s { t with denials := v } :=
  h.trans ⟨fun _ _ => rfl, rfl, rfl, rfl, rfl, rfl, rfl, rfl, rfl, rfl, rfl⟩

theorem LocalTo.setRiders (h : LocalTo l s t) (v : Vector Nat 64) : LocalTo l s { t with riders := v } :=
  h.trans ⟨fun _ _ => rfl, rfl, rfl, rfl, rfl, rfl, rfl, rfl, rfl, rfl, rfl⟩

theorem LocalTo.deny (h : LocalTo l s t) (r : DenialReason) : LocalTo l s (t.deny l r) := by
  unfold State.deny
  exact LocalTo.modLane (LocalTo.setDenials (h.modLane _) _) _

theorem LocalTo.grantAt (h : LocalTo l s t) (sub : Subject) (p : Product) : LocalTo l s (t.grantAt l sub p) := by
  unfold State.grantAt
  refine LocalTo.modLane (LocalTo.modLane (LocalTo.modLane (LocalTo.modLane ?_ _) _) _) _
  split
  · exact LocalTo.append (h.setPasses _) _
  · exact h.setPasses _

theorem LocalTo.decideTap (h : LocalTo l s t) (tap : Tap) : LocalTo l s (t.decideTap l tap) := by
  unfold State.decideTap
  split
  · exact h.grantAt _ _
  · refine LocalTo.deny ?_ _
    split
    · exact h.append _
    · exact h

theorem LocalTo.takeUp (h : LocalTo l s t) : LocalTo l s (t.takeUp l) := by
  unfold State.takeUp
  split
  · exact h
  · simp only []
    split
    · exact (h.modLane _).modLane _
    · exact (h.modLane _).decideTap _

theorem LocalTo.release (h : LocalTo l s t) (g : Grant) : LocalTo l s (t.release l g) :=
  (h.setPasses _).modLane _

theorem LocalTo.endHold (h : LocalTo l s t) : LocalTo l s (t.endHold l) := by
  unfold State.endHold
  split
  · exact (h.modLane _).append _
  · exact h

theorem LocalTo.commonEnd (h : LocalTo l s t) (g : Grant) : LocalTo l s (t.commonEnd l g) :=
  ((h.release g).endHold.modLane _).takeUp

theorem LocalTo.settle (h : LocalTo l s t) : LocalTo l s (t.settle l) := by
  unfold State.settle
  split
  · exact h
  · split
    · exact LocalTo.commonEnd ((h.modLane _).append _) _
    · exact h

theorem LocalTo.rederive (h : LocalTo l s t) : LocalTo l s (t.rederive l) := (h.modLane _).settle

theorem LocalTo.appendAll (h : LocalTo l s t) {α : Type} (f : α → RecordBody) (xs : List α) :
    LocalTo l s (xs.foldl (fun t x => t.append (f x)) t) :=
  List.foldlRecOn xs _ h fun _ h _ _ => h.append _

theorem LocalTo.clearFaults (h : LocalTo l s t) (k : FaultSet) : LocalTo l s (t.clearFaults l k) := by
  unfold State.clearFaults
  extract_lets cleared left noted closed
  have hnoted : LocalTo l s noted := (h.modLane _).appendAll _ _
  refine LocalTo.rederive ?_
  simp only [closed]
  split
  · exact hnoted
  · exact (hnoted.modLane _).settle

theorem LocalTo.syncLane (h : LocalTo l s t) : LocalTo l s (t.syncLane l) := by
  unfold State.syncLane
  split
  · exact h
  · extract_lets synced cleared
    have hsynced : LocalTo l s synced := by
      simp only [synced]
      split
      · exact h
      · exact h.modLane _
    have hcleared : LocalTo l s cleared := by
      simp only [cleared]
      split
      · exact hsynced.clearFaults _
      · exact hsynced
    split
    · exact hcleared
    · exact hcleared.rederive

end Sys2Proof.Machine

/-! What a command can do, said once: the moves that lanes and blocks make, and how a command is made of them. Every
invariant is then a matter of one move at a time. -/

namespace Sys2Proof.Machine

open Sys2Proof.Safety (CountsBounded PacingSound)

/-! ## Two changes of a lane by name -/

/-- The lane at its disabling (R49, R81, R120). -/
def Lane.disable (x : Lane) : Lane :=
  { x with
    mode := .disabled, reader := x.reader.disable, loiterTimer := none, loiterMark := false, timer := none,
    carry := false }

/-- The lane at its enabling (R81, R120). -/
def Lane.enable (x : Lane) : Lane :=
  { x with
    mode := .auto, carry := false,
    timer := (match x.settings.pace with | .paced => none | .free => x.timer),
    loiterTimer := if x.recognizer = .clear then x.loiterTimer else some (Timer.start (1000 * x.settings.loiterTime)) }

/-! ## Where a lane stands amid a command -/

/-- Whether a lane's gate and grant follow the derived command: at rest they do; after the lift's stop only on FREE
lanes; after a change that the re-derivation of R107 has yet to follow, not at all. -/
inductive Gates where
  | follow
  | followIfFree
  | astray

/-- Where the common end of a grant stands (R94): at rest, the slot emptied, HOLD_PENDING ended after it, or the lane
ready for the decision of a tap with a serial. -/
inductive Slot where
  | sound
  | vacated
  | ended
  | ready (serial : Nat)

/-- What of a lane is not yet as it is between commands. -/
structure Slack where
  gates : Gates
  slot  : Slot

/-- A lane as it is between commands. -/
def Slack.settled : Slack := { gates := .follow, slot := .sound }

/-- A lane whose command is to be re-derived. -/
def Slack.astray : Slack := { gates := .astray, slot := .sound }

/-- The moves that a lane makes under the bank's pacing, each with the condition under which commands make it. -/
inductive LaneMove (p : Pacing) : Slack → Lane → Slack → Lane → Prop
  | reader (σ : Slack) (x : Lane) (c : ReaderContext) : LaneMove p σ x σ { x with reader := c }
  | counts (σ : Slack) (x : Lane) (f : Counts → Counts) (hf : ∀ c, CountsBounded c → CountsBounded (f c)) :
      LaneMove p σ x σ { x with counts := f x.counts }
  | wait (x : Lane) (w : Waiting) (gates : Gates) (hmode : x.mode = .auto) (hgrant : x.grant.isSome = true)
      (hserial : 1 ≤ w.serial) : LaneMove p ⟨gates, .sound⟩ x ⟨gates, .sound⟩ { x with waiting := some w }
  | dropWaiting (x : Lane) (gates : Gates) :
      LaneMove p ⟨gates, .sound⟩ x ⟨gates, .sound⟩ { x with waiting := none }
  | takeUp (x : Lane) (gates : Gates) (w : Waiting) (hw : x.waiting = some w) :
      LaneMove p ⟨gates, .ended⟩ x ⟨gates, .ready w.serial⟩ { x with waiting := none }
  | noneWaiting (x : Lane) (gates : Gates) (hw : x.waiting = none) : LaneMove p ⟨gates, .ended⟩ x ⟨gates, .sound⟩ x
  | vacant (x : Lane) (gates : Gates) (hg : x.grant = none) : LaneMove p ⟨gates, .sound⟩ x ⟨gates, .ended⟩ x
  | ready (x : Lane) (gates : Gates) (serial : Nat) (hmode : x.mode = .auto) (hg : x.grant = none)
      (hserial : 1 ≤ serial) : LaneMove p ⟨gates, .sound⟩ x ⟨gates, .ready serial⟩ x
  | unready (x : Lane) (gates : Gates) (serial : Nat) : LaneMove p ⟨gates, .ready serial⟩ x ⟨gates, .sound⟩ x
  | slacken (x : Lane) (gates gates' : Gates) (slot : Slot) (h : gates = .follow ∨ gates' = .astray) :
      LaneMove p ⟨gates, slot⟩ x ⟨gates', slot⟩ x
  | freeFollows (x : Lane) (slot : Slot) (hp : x.settings.pace = .free) :
      LaneMove p ⟨.followIfFree, slot⟩ x ⟨.follow, slot⟩ x
  | derive (x : Lane) (gates : Gates) (slot : Slot) :
      LaneMove p ⟨gates, slot⟩ x ⟨.follow, slot⟩ (x.derive p.lift)
  | beamChange (σ : Slack) (x : Lane) (beam : Beam) (level : Bool) :
      LaneMove p σ x σ (x.setBeam beam ((x.beam beam).change level))
  | beamAccepted (σ : Slack) (x : Lane) (beam : Beam) (hr : (x.beam beam).running.isSome = true) :
      LaneMove p σ x σ (x.beamAccepted beam)
  | loiter (σ : Slack) (x : Lane) (ht : x.loiterTimer.isSome = true) :
      LaneMove p σ x σ { x with loiterTimer := none, loiterMark := true }
  | forward (x : Lane) (gates : Gates) (g : Grant) (hg : x.grant = some g) (hlive : g.live = true)
      (hlast : g.passages + 1 ≠ g.allowance) :
      LaneMove p ⟨gates, .sound⟩ x ⟨gates, .sound⟩ { x with grant := some g.forward }
  | forwardLast (x : Lane) (gates : Gates) (g : Grant) (hg : x.grant = some g) (hlive : g.live = true)
      (hlast : g.passages + 1 = g.allowance) :
      LaneMove p ⟨gates, .sound⟩ x ⟨.astray, .sound⟩ { x with grant := some g.forward }
  | back (x : Lane) (gates : Gates) (g : Grant) (hg : x.grant = some g) (hpos : g.passages ≠ 0)
      (hlive : g.state ≠ .draining) :
      LaneMove p ⟨gates, .sound⟩ x ⟨gates, .sound⟩ { x with grant := some g.back }
  | backDraining (x : Lane) (gates : Gates) (g : Grant) (hg : x.grant = some g) (hpos : g.passages ≠ 0)
      (hdraining : g.state = .draining) :
      LaneMove p ⟨gates, .sound⟩ x ⟨.astray, .sound⟩ { x with grant := some g.back }
  | endHold (x : Lane) (gates : Gates) (slot : Slot) (hslot : slot = .vacated ∨ slot = .ended) :
      LaneMove p ⟨gates, slot⟩ x ⟨.astray, .ended⟩ { x with mode := x.mode.endHold }
  | setMode (x : Lane) (gates : Gates) (m : LaneMode) (hx : x.mode ≠ .disabled) (hm : m ≠ .disabled)
      (hpending : m = .holdPending → x.grant.isSome = true ∧ x.waiting = none)
      (hheld : m.serving = false → x.grant = none) :
      LaneMove p ⟨gates, .sound⟩ x ⟨.astray, .sound⟩ (x.setMode m)
  | setHeld (x : Lane) (gates : Gates) (c c' : GateCommand) (hx : x.mode = .held c) :
      LaneMove p ⟨gates, .sound⟩ x ⟨.astray, .sound⟩ (x.setMode (.held c'))
  | close (x : Lane) (gates : Gates) (slot : Slot) : LaneMove p ⟨gates, slot⟩ x ⟨.astray, slot⟩ (x.issue .closeArm)
  | armInput (σ : Slack) (x : Lane) (active : Bool) : LaneMove p σ x σ (x.armInput active)
  | setFault (x : Lane) (gates : Gates) (slot : Slot) (k : FaultKind) :
      LaneMove p ⟨gates, slot⟩ x ⟨.astray, slot⟩ (x.setFault k)
  | clearFaults (x : Lane) (gates : Gates) (slot : Slot) (k : FaultSet) :
      LaneMove p ⟨gates, slot⟩ x ⟨.astray, slot⟩ (x.clearFaults k)
  | obstructionChange (σ : Slack) (x : Lane) (level : Bool) :
      LaneMove p σ x σ { x with obstruction := x.obstruction.change level }
  | obstructionAccepted (σ : Slack) (x : Lane) (h : x.obstruction.raw = true → x.faults.obstruction = false) :
      LaneMove p σ x σ { x with obstruction := x.obstruction.accept }
  | obstructionBack (σ : Slack) (x : Lane) :
      LaneMove p σ x σ { x with obstruction := x.obstruction.accept, rearm := .idle }
  | startRearm (σ : Slack) (x : Lane) (hfault : x.faults.obstruction = true) (hmode : x.settings.fault = .autoClear)
      (hinput : x.obstruction.accepted = false) : LaneMove p σ x σ x.startRearm
  | rearmed (σ : Slack) (x : Lane) (hr : x.rearm ≠ .idle) : LaneMove p σ x σ { x with rearm := .rearmed }
  | resetGate (x : Lane) (gates : Gates) : LaneMove p ⟨gates, .ended⟩ x ⟨.astray, .sound⟩ x.resetGate
  | dayClose (x : Lane) (gates : Gates) (slot : Slot) (hslot : slot = .sound ∨ slot = .ended) :
      LaneMove p ⟨gates, slot⟩ x ⟨.astray, .sound⟩ x.dayClose
  | openReached (x : Lane) (gates : Gates) (slot : Slot) : LaneMove p ⟨gates, slot⟩ x ⟨.astray, slot⟩ x.openReached
  | closeReached (x : Lane) (gates : Gates) (slot : Slot) : LaneMove p ⟨gates, slot⟩ x ⟨.astray, slot⟩ x.closeReached
  | sync (x : Lane) (gates : Gates) (slot : Slot) (hpace : x.settings.pace = .paced) (hmode : x.mode ≠ .disabled)
      (hlift : p.lift = .running ∨ p.generator.isSome = true) :
      LaneMove p ⟨gates, slot⟩ x ⟨.astray, slot⟩ x.sync
  | configured (σ : Slack) (x : Lane) (given : Nat → Bool) (value : Nat → Nat) :
      LaneMove p σ x σ { x with settings := x.settings.configured given value }
  | disable (x : Lane) (gates : Gates) (hg : x.grant = none) : LaneMove p ⟨gates, .sound⟩ x ⟨.astray, .sound⟩ x.disable
  | enable (x : Lane) (gates : Gates) (hm : x.mode = .disabled) : LaneMove p ⟨gates, .sound⟩ x ⟨.astray, .sound⟩ x.enable
  | repace (x : Lane) (gates : Gates) (slot : Slot) (m : PaceMode) :
      LaneMove p ⟨gates, slot⟩ x ⟨.astray, slot⟩ (x.repace m)
  | refault (σ : Slack) (x : Lane) (m : FaultMode) : LaneMove p σ x σ (x.refault m)

/-! ## What a command is made of -/

/-- The lane's record locked for the grant it is about to have (R23, R24, R69). -/
def State.lock (s : State) (l : Lane.Index) (sub : Subject) : State :=
  if sub.provisional then { s with passes := putPass s.passes { sub.record with grantLane := some l } }
  else s.setGrantLane sub.record.serial (some l)

/-- The line after the frame that was being sent (R166, R171). -/
def State.lineFreed (s : State) (source : FrameSource) : State :=
  let t := { s.trunk with sending := none }
  match source with
  | .answer .response => { s with trunk := { t with queue := t.queue.drop 1 } }
  | .answer .busy => { s with trunk := { t with busy := t.busy.drop 1 } }
  | _ => { s with trunk := t }

/-- The lift's stop at the bank's pacing (R113). -/
def Pacing.stop (p : Pacing) : Pacing :=
  { p with lift := .stopped, syncLoss := none, sinceEdge := none, measured := none }

/-- Where the part stands amid a command: every lane's slack, whether the transmitter has run last, and whether the
oldest waiting request has been taken and not yet answered. -/
structure Phase where
  lanes : Lane.Index → Slack
  sent  : Bool
  asked : Bool

/-- No lane amid a change. -/
def Phase.allSettled : Lane.Index → Slack := fun _ => .settled

/-- What commands make of a state, move by move: `Work s P t` says that `t` is what `s` has become, with the part in
phase `P`. -/
inductive Work (s : State) : Phase → State → Prop
  | start : Work s ⟨Phase.allSettled, true, false⟩ s
  | lane {φ b a t} {l : Lane.Index} {σ : Slack} {y : Lane} (h : Work s ⟨φ, b, a⟩ t)
      (hm : LaneMove t.pacing (φ l) (t.lane l) σ y) : Work s ⟨Function.update φ l σ, false, a⟩ (t.setLane l y)
  | append {φ b a t} (body : RecordBody) (h : Work s ⟨φ, b, a⟩ t) : Work s ⟨φ, false, a⟩ (t.append body)
  | raise {φ b a t} (f : CauseSet → CauseSet) (h : Work s ⟨φ, b, a⟩ t) (hf : ∀ c, f c ≠ CauseSet.empty) :
      Work s ⟨φ, false, a⟩ (t.raise f)
  | place {φ b a t} {l : Lane.Index} {tap : Tap} {sub : Subject} {p : Product} {gates : Gates} (h : Work s ⟨φ, b, a⟩ t)
      (hφ : φ l = ⟨gates, .ready tap.serial⟩) (hd : t.decision l tap = .grant sub p) :
      Work s ⟨Function.update φ l .astray, false, a⟩
        ((t.lock l sub).modLane l (fun x => x.place (newGrant t l sub p)))
  | release {φ b a t} {l : Lane.Index} {g g' : Grant} (h : Work s ⟨φ, b, a⟩ t) (hφ : (φ l).slot = .sound)
      (hg : (t.lane l).grant = some g') (hserial : g'.serial = g.serial) :
      Work s ⟨Function.update φ l ⟨.astray, .vacated⟩, false, a⟩ (t.release l g)
  | notePass {φ b a t} (serial : Nat) (f : PassRecord → PassRecord) (h : Work s ⟨φ, b, a⟩ t)
      (hf : ∀ r, (f r).serial = r.serial ∧ (f r).grantLane = r.grantLane ∧ (f r).refund = r.refund) :
      Work s ⟨φ, false, a⟩ { t with passes := changePass t.passes serial f }
  | refundPass {φ b a t} {serial : Nat} {r : PassRecord} (f : Refund) (h : Work s ⟨φ, b, a⟩ t)
      (hr : t.lookupPass serial = some r) (hlane : r.grantLane = none) : Work s ⟨φ, false, a⟩ (t.markRefund serial f)
  | storePass {φ b a t} (r : PassRecord) (h : Work s ⟨φ, b, a⟩ t) (hserial : 1 ≤ r.serial) (hlane : r.grantLane = none)
      (hroom : (∃ q, t.lookupPass r.serial = some q ∧ q.grantLane = none) ∨
        (t.lookupPass r.serial = none ∧ t.passCount < Config.passCapacity)) :
      Work s ⟨φ, false, a⟩ { t with passes := putPass t.passes r }
  | removePass {φ b a t} {serial : Nat} {r : PassRecord} (h : Work s ⟨φ, b, a⟩ t) (hr : t.lookupPass serial = some r)
      (hlane : r.grantLane = none) : Work s ⟨φ, false, a⟩ { t with passes := dropPass t.passes serial }
  | denied {φ b a t} (i : Nat) (h : Work s ⟨φ, b, a⟩ t) :
      Work s ⟨φ, false, a⟩ { t with denials := bumpEntry t.denials i }
  | ridden {φ b a t} (i : Nat) (h : Work s ⟨φ, b, a⟩ t) :
      Work s ⟨φ, false, a⟩ { t with riders := bumpEntry t.riders i }
  | bus {φ b a t} (x : Bus) (h : Work s ⟨φ, b, a⟩ t) : Work s ⟨φ, false, a⟩ { t with bus := x }
  | pacing {φ b a t} (p : Pacing) (h : Work s ⟨φ, b, a⟩ t) (hp : PacingSound t.pacing → PacingSound p)
      (hlift : p.lift = t.pacing.lift ∨ p.lift = .running) : Work s ⟨φ, false, a⟩ { t with pacing := p }
  | stopLift {b a t} (h : Work s ⟨Phase.allSettled, b, a⟩ t) (hloss : t.pacing.syncLoss.isSome = true) :
      Work s ⟨fun _ => ⟨.followIfFree, .sound⟩, false, a⟩
        { t with pacing := t.pacing.stop, lanes := t.lanes.map Lane.liftStop }
  | loadBegun {φ b a t} (k : TableId) (m : LoadMode) (first n : Nat) (h : Work s ⟨φ, b, a⟩ t) (hload : t.load = none) :
      Work s ⟨φ, false, a⟩
        { t.setBanks k ((t.banks k).prepared m) with
          load := some { table := k, mode := m, first := first, count := n, remaining := n, expected := none } }
  | blockWritten {φ b a t} {x : LoadTransaction} (entries : List Byte) (h : Work s ⟨φ, b, a⟩ t) (hload : t.load = some x)
      (hx : x.remaining ≠ 0) : Work s ⟨φ, false, a⟩ (t.writeBlock x entries)
  | loadAborted {φ b t} {x : LoadTransaction} (h : Work s ⟨φ, b, true⟩ t) (hload : t.load = some x) :
      Work s ⟨φ, false, true⟩ { t.setBanks x.table (t.banks x.table).emptied with load := none }
  | activated {φ b a t} (k : TableId) (h : Work s ⟨φ, b, a⟩ t) (hload : t.loadOpenFor k = false)
      (hk : (t.banks k).shadowState.activatable = true) : Work s ⟨φ, false, a⟩ (t.setBanks k (t.banks k).swapped)
  | checkBegun {φ b t} {x : LoadTransaction} (sig : Signature) (h : Work s ⟨φ, b, true⟩ t) (hload : t.load = some x)
      (hx : x.remaining = 0) :
      Work s ⟨φ, false, false⟩ (Served.begun
        { t.setBanks x.table { t.banks x.table with shadowState := .checking } with
          load := some { x with expected := some sig } }).finish
  | checkDone {φ b a t} {x : LoadTransaction} {sig : Signature} (h : Work s ⟨φ, b, a⟩ t) (hload : t.load = some x)
      (hx : x.expected = some sig) : Work s ⟨φ, false, false⟩ (t.completeCheck x sig)
  | openingBegun {φ b t} {d time : Nat} {former : Option Nat} (h : Work s ⟨φ, b, true⟩ t) (hd : d < Config.seasonDays)
      (ht : time < Config.daySeconds) (ho : t.clock.dayState.opens d = some former) :
      Work s ⟨φ, false, false⟩ (Served.begun (t.acceptOpening d time former)).finish
  | openingDone {φ b a t} {d time : Nat} {former : Option Nat} (h : Work s ⟨φ, b, a⟩ t)
      (hd : t.clock.dayState = .opening d time former) : Work s ⟨φ, false, false⟩ (t.completeOpening d time)
  | dayClosed {φ b a t} {d : Nat} (h : Work s ⟨φ, b, a⟩ t) (hd : t.clock.dayState = .dayOpen d)
      (hg : ∀ l, (t.lane l).grant = none) :
      Work s ⟨φ, false, a⟩ { t with clock := { t.clock with dayState := .dayClosed d } }
  | timeSet {φ b a t} {time : Nat} (h : Work s ⟨φ, b, a⟩ t) (ht : time < Config.daySeconds) :
      Work s ⟨φ, false, a⟩ { t with clock := t.clock.setTime time }
  | tick {φ b a t} (h : Work s ⟨φ, b, a⟩ t) : Work s ⟨φ, false, a⟩ { t with clock := t.clock.tick }
  | reports {φ b a t} (q : ReportQueue) (h : Work s ⟨φ, b, a⟩ t) (hr : q.records = t.reports.records)
      (hw : q.withheld = t.reports.withheld) : Work s ⟨φ, false, a⟩ { t with reports := q }
  | quieten {φ b a t} (h : Work s ⟨φ, b, a⟩ t) : Work s ⟨φ, false, a⟩ t.quieten
  | resetting {φ b a t} (h : Work s ⟨φ, b, a⟩ t) :
      Work s ⟨φ, false, a⟩ { t with trunk := { t.trunk with resetting := true } }
  | receiver {φ b a t} (r : Receiver) (h : Work s ⟨φ, b, a⟩ t) : Work s ⟨φ, b, a⟩ (t.setReceiver r)
  | offer {φ b a t} (tag : Byte) (payload : List Byte) (h : Work s ⟨φ, b, a⟩ t) :
      Work s ⟨φ, false, false⟩ (t.offerRequest tag payload)
  | ask {φ b a t} (h : Work s ⟨φ, b, a⟩ t) (hq : (oldestWaiting t.trunk.queue).isSome = true) : Work s ⟨φ, b, true⟩ t
  | answer {φ b t} (result : Result) (results : List Byte) (h : Work s ⟨φ, b, true⟩ t) :
      Work s ⟨φ, false, false⟩ (t.answer result results)
  | freed {φ b a t} {f : OutFrame} (h : Work s ⟨φ, b, a⟩ t) (hf : t.trunk.sending = some f) :
      Work s ⟨φ, false, false⟩ (t.lineFreed f.source)
  | transmit {φ b a t} (h : Work s ⟨φ, b, a⟩ t) : Work s ⟨φ, true, a⟩ t.transmit
  | advance {φ b a t} (ms : Nat) (h : Work s ⟨φ, b, a⟩ t) : Work s ⟨φ, b, a⟩ (t.advance ms)
  | coldStart {φ b a t} (h : Work s ⟨φ, b, a⟩ t) : Work s ⟨Phase.allSettled, false, false⟩ t.coldStart
  | warmStart {φ b a t} (h : Work s ⟨φ, b, a⟩ t) : Work s ⟨Phase.allSettled, false, false⟩ t.warmStart

end Sys2Proof.Machine

/-! How the operations that commands share are made of moves. -/

namespace Sys2Proof.Machine

open Sys2Proof.Safety (CountsBounded PacingSound)

variable {s t : State} {φ : Lane.Index → Slack} {b a : Bool} {l : Lane.Index} {σ σ' : Slack} {gates : Gates} {slot : Slot}

/-! ## One lane amid a change -/

/-- The part amid a command, with lane `l` in slack `σ` and the other lanes as in `φ`. -/
abbrev WorkAt (s : State) (φ : Lane.Index → Slack) (a : Bool) (l : Lane.Index) (σ : Slack) (t : State) : Prop :=
  Work s ⟨Function.update φ l σ, false, a⟩ t

theorem State.setLane_lane (s : State) (l : Lane.Index) : s.setLane l (s.lane l) = s := by
  simp [State.setLane, State.lane]

theorem State.modLane_modLane (s : State) (l : Lane.Index) (f g : Lane → Lane) :
    (s.modLane l f).modLane l g = s.modLane l (fun x => g (f x)) := by
  rw [State.modLane, State.lane_modLane_same]
  simp [State.modLane, State.setLane]

/-- A move of the lane that is amid a change. -/
theorem Work.move {y : Lane} (h : Work s ⟨Function.update φ l σ, b, a⟩ t) (hm : LaneMove t.pacing σ (t.lane l) σ' y) :
    WorkAt s φ a l σ' (t.setLane l y) := by
  simpa using h.lane (l := l) (σ := σ') (by simpa using hm)

theorem Work.modLane {f : Lane → Lane} (h : Work s ⟨Function.update φ l σ, b, a⟩ t)
    (hm : LaneMove t.pacing σ (t.lane l) σ' (f (t.lane l))) : WorkAt s φ a l σ' (t.modLane l f) :=
  h.move hm

/-- A move that changes only how far the lane is from rest. -/
theorem Work.slip (h : Work s ⟨Function.update φ l σ, b, a⟩ t) (hm : LaneMove t.pacing σ (t.lane l) σ' (t.lane l)) :
    WorkAt s φ a l σ' t := by
  simpa [State.setLane_lane] using h.move hm

/-- A lane may be looked at by itself. -/
theorem Work.at (h : Work s ⟨φ, b, a⟩ t) (hσ : φ l = σ) : WorkAt s φ a l σ t := by
  have hself : Function.update φ l σ = φ := by rw [← hσ, Function.update_eq_self]
  exact Work.slip (σ := σ) (b := b) (by rwa [hself]) (.counts σ (t.lane l) id fun _ hc => hc)

theorem update_allSettled (l : Lane.Index) : Function.update Phase.allSettled l .settled = Phase.allSettled :=
  Function.update_eq_self l _

/-- A lane at rest among lanes at rest. -/
theorem Work.settledAt (h : Work s ⟨Phase.allSettled, b, a⟩ t) (l : Lane.Index) :
    WorkAt s Phase.allSettled a l .settled t :=
  h.at rfl

theorem Work.allSettled (h : WorkAt s Phase.allSettled a l .settled t) : Work s ⟨Phase.allSettled, false, a⟩ t := by
  rwa [WorkAt, update_allSettled] at h

/-- A lane at rest may be taken for one that is not. -/
theorem Work.slacken (h : WorkAt s φ a l .settled t) (gates : Gates) : WorkAt s φ a l ⟨gates, .sound⟩ t :=
  h.slip (.slacken _ _ _ _ (.inl rfl))

/-! ## Records, verdicts and counts -/

/-- A change of a lane's counters that keeps them within their ranges, as every increase does (R126, R128). -/
theorem Work.count (h : WorkAt s φ a l σ t) {f : Counts → Counts}
    (hf : ∀ c, CountsBounded c → CountsBounded (f c) := by simp +contextual [Sys2Proof.Safety.CountsBounded, satInc_le, wrapInc_lt]) :
    WorkAt s φ a l σ (t.count l f) :=
  h.modLane (.counts σ _ f hf)

theorem Work.handVerdict (h : WorkAt s φ a l σ t) (v : Verdict) : WorkAt s φ a l σ (t.handVerdict l v) :=
  h.modLane (.reader σ _ _)

theorem Work.deny (h : WorkAt s φ a l σ t) (r : DenialReason) : WorkAt s φ a l σ (t.deny l r) :=
  Work.handVerdict (Work.denied (r.number - 1) h.count) _

theorem Work.reportCompleted (h : WorkAt s φ a l σ t) (g : Grant) : WorkAt s φ a l σ (t.reportCompleted l g) :=
  .append _ h.count

theorem Work.reportLapsed (h : WorkAt s φ a l σ t) (g : Grant) : WorkAt s φ a l σ (t.reportLapsed l g) :=
  .append _ h.count

theorem Work.reportEnd (h : WorkAt s φ a l σ t) (g : Grant) : WorkAt s φ a l σ (t.reportEnd l g) := by
  unfold State.reportEnd
  split
  · exact h.reportCompleted g
  · exact h.reportLapsed g

theorem reportCompleted_grant (t : State) (l : Lane.Index) (g : Grant) :
    ((t.reportCompleted l g).lane l).grant = (t.lane l).grant := by
  simp [State.reportCompleted, State.count]

/-! ## A grant given and a grant's end (R69, R92 to R94) -/

theorem Work.derive (h : WorkAt s φ a l ⟨gates, slot⟩ t) : WorkAt s φ a l ⟨.follow, slot⟩ (t.derive l) :=
  h.modLane (.derive _ _ _)

/-- A record's append and a change of a lane go past each other. -/
theorem State.append_modLane (t : State) (body : RecordBody) (l : Lane.Index) (f : Lane → Lane) :
    (t.append body).modLane l f = (t.modLane l f).append body := by
  simp only [State.modLane, State.append_lane]
  by_cases hroom : t.reports.records.length < Config.reportCapacity
  · by_cases hmark : t.reports.records.length + 1 = Config.backlogMark <;>
      simp only [State.append, State.setLane, State.raise, hroom, hmark, if_true, if_false]
  · simp only [State.append, State.setLane, State.raise, hroom, if_false]

/-- A grant is its record's lock and its place in the slot, the PASS_CREATED of a provisional subject, the count, the
verdict and the derivation (R69). -/
theorem State.grantAt_eq (t : State) (l : Lane.Index) (sub : Subject) (p : Product) :
    t.grantAt l sub p =
      let placed := (t.lock l sub).modLane l (fun x => x.place (newGrant t l sub p))
      let noted := if sub.provisional then
          placed.append (.passCreated sub.record.serial sub.record.product sub.record.firstDay)
        else placed
      State.derive (State.handVerdict (noted.count l (fun c => { c with grants := satInc c.grants })) l
        (.grant p.riders)) l := by
  unfold State.grantAt State.lock
  split
  · simp only [State.append_modLane]
  · rfl

theorem Work.grantAt {tap : Tap} {sub : Subject} {p : Product} (h : WorkAt s φ a l ⟨gates, .ready tap.serial⟩ t)
    (hd : t.decision l tap = .grant sub p) : WorkAt s φ a l .settled (t.grantAt l sub p) := by
  have hplace : WorkAt s φ a l .astray ((t.lock l sub).modLane l (fun x => x.place (newGrant t l sub p))) := by
    simpa using Work.place h (Function.update_self ..) hd
  rw [State.grantAt_eq]
  refine Work.derive (gates := .astray) (Work.handVerdict (Work.count ?_) _)
  split
  · exact .append _ hplace
  · exact hplace

/-- A decided tap leaves the lane at rest: granted, or without a grant as it was. -/
theorem Work.decideTap {tap : Tap} (h : WorkAt s φ a l ⟨.follow, .ready tap.serial⟩ t) :
    WorkAt s φ a l .settled (t.decideTap l tap) := by
  unfold State.decideTap
  split
  · next hd => exact h.grantAt hd
  · have hsound : WorkAt s φ a l .settled t := h.slip (.unready _ _ _)
    refine Work.deny ?_ _
    split
    · exact .append _ hsound
    · exact hsound

theorem Work.arrive {tap : Tap} (h : WorkAt s φ a l .settled t) (htap : 1 ≤ tap.serial) :
    WorkAt s φ a l .settled (t.arrive l tap) := by
  unfold State.arrive
  split
  · next hmode =>
    split
    · next hg => exact (h.slip (.ready _ _ tap.serial hmode hg htap)).decideTap
    · next hg =>
      split
      · exact h.handVerdict _
      · exact (Work.modLane h (.wait _ _ _ hmode (by simp [hg]) htap)).handVerdict _
  · exact h
  · exact h.deny _

theorem Work.takeUp (h : WorkAt s φ a l ⟨.follow, .ended⟩ t) : WorkAt s φ a l .settled (t.takeUp l) := by
  unfold State.takeUp
  split
  · next hw => exact h.slip (.noneWaiting _ _ hw)
  · next w hw =>
    have htaken : WorkAt s φ a l ⟨.follow, .ready w.serial⟩ (t.modLane l (fun x => { x with waiting := none })) :=
      h.modLane (.takeUp _ _ w hw)
    simp only []
    split
    · exact Work.handVerdict (htaken.slip (.unready _ _ _)) _
    · exact Work.decideTap htaken

theorem Work.endHold {slot : Slot} (h : WorkAt s φ a l ⟨gates, slot⟩ t) (hslot : slot = .vacated ∨ slot = .ended) :
    WorkAt s φ a l ⟨.astray, .ended⟩ (t.endHold l) := by
  unfold State.endHold
  split
  · next hm =>
    have hended : WorkAt s φ a l ⟨.astray, .ended⟩ (t.modLane l (fun x => { x with mode := .held .closeArm })) :=
      h.modLane (by simpa [hm, LaneMode.endHold] using LaneMove.endHold (p := t.pacing) (t.lane l) gates slot hslot)
    exact .append _ hended
  · next hm =>
    refine h.slip ?_
    have hself : ({ t.lane l with mode := (t.lane l).mode.endHold } : Lane) = t.lane l := by
      cases hx : (t.lane l).mode with
      | holdPending => exact absurd hx hm
      | _ => simp [LaneMode.endHold, ← hx]
    simpa [hself] using LaneMove.endHold (p := t.pacing) (t.lane l) gates slot hslot

/-- The common end of a grant leaves the lane at rest (R94). -/
theorem Work.commonEnd {g g' : Grant} (h : WorkAt s φ a l ⟨gates, .sound⟩ t) (hg : (t.lane l).grant = some g')
    (hserial : g'.serial = g.serial) : WorkAt s φ a l .settled (t.commonEnd l g) := by
  have hreleased : WorkAt s φ a l ⟨.astray, .vacated⟩ (t.release l g) := by
    simpa using Work.release h (by simp) hg hserial
  exact (hreleased.endHold (.inl rfl)).derive.takeUp

/-- A DRAINING grant's completion at a SHUT gate leaves the lane at rest, and otherwise nothing happens (R92). -/
theorem Work.settle (h : WorkAt s φ a l ⟨gates, .sound⟩ t) : WorkAt s φ a l ⟨gates, .sound⟩ (t.settle l) := by
  unfold State.settle
  split
  · exact h
  · next hg =>
    split
    · exact Work.slacken ((h.reportCompleted _).commonEnd (by rw [reportCompleted_grant, hg]) rfl) gates
    · exact h

theorem Work.rederive (h : WorkAt s φ a l ⟨gates, .sound⟩ t) : WorkAt s φ a l .settled (t.rederive l) :=
  h.derive.settle

/-! ## Passages (R80, R85 to R91) -/

theorem Work.dayCommit (h : WorkAt s φ a l σ t) (serial : Nat) : WorkAt s φ a l σ (t.dayCommit serial) := by
  unfold State.dayCommit
  split
  · exact h
  · exact .notePass serial _ h fun _ => ⟨rfl, rfl, rfl⟩

theorem Work.passageNote (h : WorkAt s φ a l σ t) (serial : Nat) : WorkAt s φ a l σ (t.passageNote serial) :=
  .notePass serial _ h fun _ => ⟨rfl, rfl, rfl⟩

theorem passageNote_lane (t : State) (serial : Nat) (l : Lane.Index) : (t.passageNote serial).lane l = t.lane l := rfl

theorem dayCommit_lane (t : State) (serial : Nat) (l : Lane.Index) : (t.dayCommit serial).lane l = t.lane l :=
  State.lane_congr (State.dayCommit_lanes t serial) l

/-- A passage on a grant that is not DRAINING makes it DRAINING exactly at its allowance. -/
theorem Grant.forward_state {g : Grant} (h : g.live = true) :
    g.forward.state = .draining ↔ g.passages + 1 = g.allowance := by
  have hstate : g.state ≠ .draining := by simpa [Grant.live] using h
  by_cases hlast : g.passages + 1 = g.allowance <;> simp [Grant.forward, hlast, hstate]

theorem Work.countedPassage {g : Grant} (h : WorkAt s φ a l .settled t) (hg : (t.lane l).grant = some g)
    (hlive : g.live = true) : WorkAt s φ a l .settled (t.countedPassage l g) := by
  unfold State.countedPassage
  extract_lets counted ridden committed noted placed
  have hridden : WorkAt s φ a l .settled ridden := .ridden _ h.count
  have hcommitted : WorkAt s φ a l .settled committed := by
    simp only [committed]
    split
    · exact hridden
    · exact hridden.dayCommit _
  have hnoted : WorkAt s φ a l .settled noted := hcommitted.passageNote _
  have hlane : (noted.lane l).grant = some g := by
    have hride : (ridden.lane l).grant = some g := by
      have hcounted : (counted.lane l).grant = (t.lane l).grant := Safety.count_grant t l l _
      exact hcounted.trans hg
    simp only [noted, committed, passageNote_lane]
    split
    · exact hride
    · rw [dayCommit_lane, hride]
  split
  · next hlast =>
    exact (Work.modLane hnoted (.forwardLast _ _ g hlane hlive ((Grant.forward_state hlive).1 hlast))).rederive
  · next hlast =>
    exact Work.modLane hnoted (.forward _ _ g hlane hlive fun he => hlast ((Grant.forward_state hlive).2 he))

theorem Work.forwardPassage (h : WorkAt s φ a l .settled t) : WorkAt s φ a l .settled (t.forwardPassage l) := by
  unfold State.forwardPassage
  split
  · exact .append _ h.count
  · next hg =>
    split
    · next hlive => exact h.countedPassage hg hlive
    · exact .append _ h.count

theorem Work.reversePassage (h : WorkAt s φ a l .settled t) : WorkAt s φ a l .settled (t.reversePassage l) := by
  have hcount : WorkAt s φ a l .settled (t.count l (fun c => { c with reverse := satInc c.reverse })) := h.count
  unfold State.reversePassage
  simp only []
  split
  · exact hcount
  · next g hg =>
    split
    · exact hcount
    · next hpos =>
      split
      · next hd => exact (Work.modLane hcount (.backDraining _ _ g hg hpos hd)).rederive
      · next hd => exact Work.modLane hcount (.back _ _ g hg hpos hd)

theorem Work.passage (h : WorkAt s φ a l .settled t) (d : Direction) : WorkAt s φ a l .settled (t.passage l d) := by
  unfold State.passage
  split
  · exact h.count
  · exact h
  · cases d with
    | forward => exact h.forwardPassage
    | reverse => exact h.reversePassage

theorem Work.beamAccepted (h : WorkAt s φ a l .settled t) {beam : Beam}
    (hr : ((t.lane l).beam beam).running.isSome = true) : WorkAt s φ a l .settled (t.beamAccepted l beam) := by
  have hmoved : WorkAt s φ a l .settled (t.modLane l (fun x => x.beamAccepted beam)) :=
    h.modLane (.beamAccepted _ _ beam hr)
  unfold State.beamAccepted
  simp only []
  split
  · exact hmoved
  · exact hmoved.passage _

/-! ## Faults (R115, R119) -/

theorem or_laneBit_ne_zero (b : Byte) (l : Lane.Index) : b ||| laneBit l ≠ 0#8 := by
  revert b l
  decide

theorem Work.setFault (h : WorkAt s φ a l ⟨gates, .sound⟩ t) (k : FaultKind) :
    WorkAt s φ a l ⟨gates, .sound⟩ (t.setFault l k) := by
  unfold State.setFault
  split
  · exact h
  · refine Work.slacken (Work.rederive (gates := .astray) ?_) gates
    refine .raise _ (.append _ (Work.count (Work.modLane h (.setFault _ _ _ k)))) fun c hc => ?_
    exact or_laneBit_ne_zero c.laneFault l (congrArg CauseSet.laneFault hc)

theorem Work.appendAll (h : WorkAt s φ a l σ t) {α : Type} (f : α → RecordBody) (xs : List α) :
    WorkAt s φ a l σ (xs.foldl (fun t x => t.append (f x)) t) := by
  induction xs generalizing t with
  | nil => exact h
  | cons x xs ih => exact ih (.append _ h)

theorem Work.clearFaults (h : WorkAt s φ a l ⟨gates, .sound⟩ t) (k : FaultSet) :
    WorkAt s φ a l .settled (t.clearFaults l k) := by
  unfold State.clearFaults
  extract_lets cleared left noted closed
  have hleft : WorkAt s φ a l .astray left := h.modLane (.clearFaults _ _ _ k)
  have hnoted : WorkAt s φ a l .astray noted := hleft.appendAll (fun kind => .laneEvent l (.faultCleared kind)) _
  refine Work.rederive (gates := .astray) ?_
  simp only [closed]
  split
  · exact hnoted
  · exact Work.settle (Work.modLane hnoted (.close _ _ _))

end Sys2Proof.Machine

/-! How every command is made of moves. -/

namespace Sys2Proof.Machine

open Sys2Proof.Safety (CountsBounded PacingSound)

variable {s t : State} {φ : Lane.Index → Slack} {b a : Bool} {l : Lane.Index} {σ σ' : Slack} {gates : Gates}
  {slot : Slot}

/-! ## The part with every lane at rest -/

/-- The part amid a command with every lane at rest; `a` says whether a request has been taken. -/
abbrev WorkAll (s : State) (a : Bool) (t : State) : Prop := Work s ⟨Phase.allSettled, false, a⟩ t

theorem Work.all (h : Work s ⟨Phase.allSettled, b, a⟩ t) : WorkAll s a t := (h.settledAt 0).allSettled

/-- The part when a command is over: every lane at rest, the transmitter gone on, no request left taken. -/
abbrev WorkDone (s t : State) : Prop := Work s ⟨Phase.allSettled, true, false⟩ t

theorem WorkAll.done (h : WorkAll s false t) : WorkDone s t.transmit := h.transmit

theorem workAll_start (s : State) : WorkAll s false s := Work.all .start

/-- What is done at one lane at rest is done with every lane at rest. -/
theorem WorkAll.atLane {t' : State} (h : WorkAll s a t) (l : Lane.Index)
    (hop : WorkAt s Phase.allSettled a l .settled t → WorkAt s Phase.allSettled a l .settled t') : WorkAll s a t' :=
  (hop (h.settledAt l)).allSettled

theorem WorkAll.elapse (h : WorkAll s a t) (ms : Nat) : WorkAll s a (t.elapse ms) := Work.all (.advance ms (.transmit h))

theorem workAll_elapse (s : State) (ms : Nat) : WorkAll s false (s.elapse ms) := (workAll_start s).elapse ms

/-- A step that a condition holds back. -/
theorem Work.unless {P : Phase} {t' : State} {c : Prop} [Decidable c] (h : Work s P t) (hf : Work s P t → Work s P t') :
    Work s P (if c then t else t') := by
  split
  · exact h
  · exact hf h

/-- An event at a lane, which does not occur where the number names none. -/
theorem workDone_atLane (s : State) (n : Nat) {f : Lane.Index → State} (hf : ∀ l, WorkDone s (f l)) :
    WorkDone s (s.atLane n f) := by
  unfold State.atLane
  split
  · exact hf _
  · exact .start

/-- The lanes one after another, each brought from one slack to another under a condition that lasts. -/
theorem Work.foldLanes {f : Lane.Index → State → State} {Q : State → Prop} (hQ : ∀ l t, Q t → Q (f l t))
    (hf : ∀ φ l t, Q t → WorkAt s φ a l σ t → WorkAt s φ a l σ' (f l t)) {ls : List Lane.Index} (hn : ls.Nodup)
    (hq : Q t) (h : Work s ⟨fun k => if k ∈ ls then σ else σ', false, a⟩ t) :
    Work s ⟨fun _ => σ', false, a⟩ (ls.foldl (fun t l => f l t) t) := by
  induction ls generalizing t with
  | nil => simpa using h
  | cons l ls ih =>
    obtain ⟨hl, hn⟩ := List.nodup_cons.1 hn
    refine ih hn (hQ l t hq) ?_
    have hφ : Function.update (fun k => if k ∈ l :: ls then σ else σ') l σ' = fun k => if k ∈ ls then σ else σ' := by
      funext k
      by_cases hk : k = l <;> simp [hk, hl]
    have hstep := hf _ l t hq (h.at (l := l) (σ := σ) (by simp))
    rwa [WorkAt, hφ] at hstep

theorem Work.eachLane {f : Lane.Index → State → State} {Q : State → Prop} (hQ : ∀ l t, Q t → Q (f l t))
    (hf : ∀ φ l t, Q t → WorkAt s φ a l σ t → WorkAt s φ a l σ' (f l t)) (hq : Q t)
    (h : Work s ⟨fun _ => σ, false, a⟩ t) : Work s ⟨fun _ => σ', false, a⟩ (t.eachLane f) := by
  refine Work.foldLanes hQ hf allLanes_nodup hq ?_
  simpa [mem_allLanes] using h

/-- The lanes one after another, with no condition. -/
theorem Work.everyLane {f : Lane.Index → State → State}
    (hf : ∀ φ l t, WorkAt s φ a l σ t → WorkAt s φ a l σ' (f l t)) (h : Work s ⟨fun _ => σ, false, a⟩ t) :
    Work s ⟨fun _ => σ', false, a⟩ (t.eachLane f) :=
  Work.eachLane (Q := fun _ => True) (fun _ _ _ => trivial) (fun φ l t _ => hf φ l t) trivial h

/-! ## The lane bus (R39 to R49) -/

theorem WorkAll.sendPoll (h : WorkAll s a t) (l : Lane.Index) : WorkAll s a (t.sendPoll l) :=
  .bus _ (h.atLane l fun h => Work.modLane h (.reader _ _ _))

theorem WorkAll.visit (h : WorkAll s a t) (ls : List Lane.Index) : WorkAll s a (State.visit ls t) := by
  induction ls generalizing t with
  | nil => exact h
  | cons l ls ih =>
    unfold State.visit
    split
    · exact ih h
    · split
      · exact h.sendPoll l
      · exact ih (h.atLane l fun h => Work.modLane h (.reader _ _ _))

theorem WorkAll.failPoll (h : WorkAll s a t) (l : Lane.Index) : WorkAll s a (t.failPoll l) := by
  unfold State.failPoll
  extract_lets c counted failed
  have hfailed : WorkAll s a failed := h.atLane l fun h => Work.modLane (Work.count h) (.reader _ _ _)
  split
  · exact .raise _ (.append _ hfailed) fun c hc => or_laneBit_ne_zero c.readerLost l (congrArg CauseSet.readerLost hc)
  · exact hfailed

theorem WorkAll.credential (h : WorkAll s a t) (l : Lane.Index) {c : Credential} (hc : 1 ≤ c.serial) :
    WorkAll s a (t.credential l c) :=
  Work.unless h fun h => WorkAll.atLane h l fun h => (Work.modLane h (.reader _ _ _)).arrive hc

/-- A credential reply carries a serial from 1 up (R45). -/
def Reply.serialPositive : Reply → Prop
  | .credential c => 1 ≤ c.serial
  | _ => True

theorem WorkAll.goodReply (h : WorkAll s a t) (p : Poll) {r : Reply} (hr : r.serialPositive) :
    WorkAll s a (t.goodReply p r) := by
  unfold State.goodReply
  extract_lets l c answered noted
  have hanswered : WorkAll s a answered := h.atLane l fun h => Work.modLane h (.reader _ _ _)
  have hnoted : WorkAll s a noted := by
    simp only [noted]
    split
    · exact .append _ hanswered
    · exact hanswered
  split
  · exact hnoted.credential l hr
  · exact hnoted

theorem WorkAll.judged (h : WorkAll s false t) (p : Poll) {r : Option Reply} (hr : ∀ q ∈ r, q.serialPositive) :
    WorkDone s (t.judged p r) := by
  refine WorkAll.done (WorkAll.visit (Work.unless (.bus _ h) fun h => ?_) _)
  cases r with
  | none => exact WorkAll.failPoll h _
  | some q => exact WorkAll.goodReply h p (hr q rfl)

theorem credentialOf_serial {body : List Byte} {c : Credential} (h : credentialOf body = some c) : 1 ≤ c.serial := by
  unfold credentialOf at h
  split at h
  · simp only [] at h
    split at h
    · split at h
      · next hrange =>
        cases h
        exact hrange.2.1
      · cases h
    · cases h
  · cases h

theorem replyOf_serialPositive {kind : Byte} {body : List Byte} {r : Reply} (h : replyOf kind body = some r) :
    r.serialPositive := by
  cases r with
  | credential c =>
    unfold replyOf at h
    split at h
    · split at h <;> cases h
    · split at h
      · obtain ⟨d, hd, he⟩ := Option.map_eq_some_iff.1 h
        cases he
        exact credentialOf_serial hd
      · split at h
        · split at h <;> cases h
        · cases h
  | _ => trivial

theorem judge_serialPositive {p : Poll} {bytes : List Byte} : ∀ r ∈ p.judge bytes, r.serialPositive := by
  intro r hr
  unfold Poll.judge at hr
  split at hr
  · unfold judgeReply at hr
    split at hr
    · simp only [Option.mem_def] at hr
      split at hr
      · split at hr
        · split at hr
          · exact replyOf_serialPositive hr
          · cases hr
        · cases hr
      · cases hr
    · cases hr
  · cases hr

/-! ## Holds, the obstruction input and lane reset (R101 to R104, R115 to R118, R123) -/

/-- A denial's effect on its lane (R71). -/
theorem State.deny_lane (t : State) (l : Lane.Index) (r : DenialReason) :
    (t.deny l r).lane l = { t.lane l with
      reader := (t.lane l).reader.hand (.deny r),
      counts := { (t.lane l).counts with denials := satInc (t.lane l).counts.denials } } := by
  have hcount : (t.count l (fun c => { c with denials := satInc c.denials })).lane l =
      { t.lane l with counts := { (t.lane l).counts with denials := satInc (t.lane l).counts.denials } } :=
    State.lane_modLane_same t l _
  simp only [State.deny, State.handVerdict, State.lane_modLane_same]
  exact congrArg (fun x : Lane => { x with reader := x.reader.hand (.deny r) }) hcount

theorem Work.hold (h : WorkAt s φ a l .settled t) (hm : (t.lane l).mode = .auto) :
    WorkAt s φ a l .settled (t.hold l) := by
  unfold State.hold
  split
  · next hg =>
    have hheld : WorkAt s φ a l .astray (t.modLane l (Lane.setMode (.held .closeArm))) :=
      h.modLane (.setMode _ _ _ (by simp [hm]) (by simp) (by simp) fun _ => hg)
    exact Work.rederive (.append _ hheld)
  · next g hg =>
    have hpend {t' : State} (h : WorkAt s φ a l .settled t') (hm : (t'.lane l).mode = .auto)
        (hg : (t'.lane l).grant.isSome = true) (hw : (t'.lane l).waiting = none) :
        WorkAt s φ a l .settled ((t'.modLane l (Lane.setMode .holdPending)).rederive l) :=
      Work.rederive (Work.modLane h (.setMode _ _ _ (by simp [hm]) (by simp) (fun _ => ⟨hg, hw⟩) (by simp [LaneMode.serving])))
    split
    · next hw => exact hpend h hm (by simp [hg]) hw
    · refine hpend (Work.deny (Work.modLane h (.dropWaiting _ _)) _) ?_ ?_ ?_ <;> simp [State.deny_lane, hm, hg]

theorem Work.unhold (h : WorkAt s φ a l .settled t) {c : GateCommand} (hm : (t.lane l).mode = .held c) :
    WorkAt s φ a l .settled (t.unhold l) := by
  have hauto : WorkAt s φ a l .astray (t.modLane l (Lane.setMode .auto)) :=
    h.modLane (.setMode _ _ _ (by simp [hm]) (by simp) (by simp) (by simp [LaneMode.serving]))
  have hclosed := Work.modLane (f := fun x => x.issue .closeArm) hauto (.close _ _ _)
  rw [State.modLane_modLane] at hclosed
  exact Work.rederive (.append _ hclosed)

theorem Work.obstructionAccepted (h : WorkAt s φ a l .settled t) :
    WorkAt s φ a l .settled (t.obstructionAccepted l) := by
  unfold State.obstructionAccepted
  extract_lets accepted x
  have hx : x = { t.lane l with obstruction := (t.lane l).obstruction.accept } := State.lane_modLane_same t l _
  have haccepted (hraw : (t.lane l).obstruction.raw = true → (t.lane l).faults.obstruction = false) :
      WorkAt s φ a l .settled accepted := h.modLane (.obstructionAccepted _ _ hraw)
  simp only [hx, Debounce.accept]
  split
  · split
    · have hback : WorkAt s φ a l .settled
          (t.modLane l (fun x => { x with obstruction := x.obstruction.accept, rearm := .idle })) :=
        h.modLane (.obstructionBack _ _)
      simpa only [accepted, State.modLane_modLane] using hback
    · next hf => exact (haccepted fun _ => by simpa using hf).setFault _
  · next hraw =>
    have hinactive : WorkAt s φ a l .settled accepted := haccepted fun h => absurd h hraw
    split
    · next hf =>
      have hlane : accepted.lane l = { t.lane l with obstruction := (t.lane l).obstruction.accept } := hx
      exact Work.modLane hinactive (.startRearm _ _ (by rw [hlane]; exact hf.1) (by rw [hlane]; exact hf.2)
        (by rw [hlane]; simpa [Debounce.accept] using hraw))
    · exact hinactive

theorem Work.rearmExpired (h : WorkAt s φ a l .settled t) (hr : (t.lane l).rearm ≠ .idle) :
    WorkAt s φ a l .settled (t.rearmExpired l) := by
  unfold State.rearmExpired
  split
  · exact h.clearFaults _
  · exact Work.modLane h (.rearmed _ _ hr)

theorem reportLapsed_grant (t : State) (l : Lane.Index) (g : Grant) :
    ((t.reportLapsed l g).lane l).grant = (t.lane l).grant := by
  simp [State.reportLapsed, State.count]

/-- A lane whose grant, if it has one, has been taken out of its slot. -/
theorem Work.resetLane (h : WorkAt s φ a l .settled t) : WorkAt s φ a l .settled (t.resetLane l) := by
  unfold State.resetLane
  extract_lets emptied ended placed faulted
  have hemptied : ∃ gates slot, (slot = .vacated ∨ slot = .ended) ∧ WorkAt s φ a l ⟨gates, slot⟩ emptied := by
    cases hg : (t.lane l).grant with
    | none =>
      refine ⟨.follow, .ended, .inr rfl, ?_⟩
      simp only [emptied, hg]
      exact h.slip (.vacant _ _ hg)
    | some g =>
      refine ⟨.astray, .vacated, .inl rfl, ?_⟩
      simp only [emptied, hg]
      simpa using Work.release (h.reportLapsed g) (by simp [Slack.settled]) ((reportLapsed_grant t l g).trans hg) rfl
  obtain ⟨gates, slot, hslot, hemptied⟩ := hemptied
  have hplaced : WorkAt s φ a l .astray placed := Work.modLane (hemptied.endHold hslot) (.resetGate _ _)
  refine Work.rederive (gates := .astray) ?_
  simp only [faulted]
  split
  · exact hplaced.setFault _
  · exact hplaced

/-! ## Sync events and the lift (R111 to R114, R121) -/

theorem Work.syncLane (h : WorkAt s φ a l .settled t)
    (hlift : t.pacing.lift = .running ∨ t.pacing.generator.isSome = true) :
    WorkAt s φ a l .settled (t.syncLane l) := by
  unfold State.syncLane
  split
  · exact h
  · next hpace =>
    extract_lets synced cleared
    have hsynced : WorkAt s φ a l .astray synced := by
      simp only [synced]
      split
      · exact h.slacken _
      · next hmode => exact Work.modLane h (.sync _ _ _ hpace hmode hlift)
    by_cases hr : (synced.lane l).rearm = .rearmed
    · have hcleared : WorkAt s φ a l .settled cleared := by
        simp only [cleared, if_pos hr]
        exact hsynced.clearFaults _
      split
      · exact hcleared
      · exact hcleared.rederive
    · by_cases hmode : (t.lane l).mode = .disabled
      · have hsame : synced = t := if_pos hmode
        simp only [cleared, if_neg hr, hsame, if_pos hmode]
        exact h
      · have hsame : cleared = synced := if_neg hr
        have hmode' : (synced.lane l).mode ≠ .disabled := by
          rw [show synced = t.modLane l Lane.sync from if_neg hmode, State.lane_modLane_same]
          exact hmode
        rw [hsame, if_neg hmode']
        exact hsynced.rederive

theorem WorkAll.syncEvent (h : WorkAll s a t) (hlift : t.pacing.lift = .running ∨ t.pacing.generator.isSome = true) :
    WorkAll s a t.syncEvent := by
  refine Work.eachLane (Q := fun u => u.pacing.lift = .running ∨ u.pacing.generator.isSome = true) ?_
    (fun φ l u hu h => h.syncLane hu) (by simpa using hlift) (.pacing _ h (fun hp => hp) (.inl rfl))
  intro l u hu
  rwa [((LocalTo.refl l u).syncLane).pacing]

/-- The lift's stop empties every carry mark and every paced lane's timer at once (R113). -/
theorem State.stopLift_eq (t : State) :
    t.stopLift = State.raise (State.append
      (State.eachLane { t with pacing := t.pacing.stop, lanes := t.lanes.map Lane.liftStop }
        (fun l s => if (s.lane l).settings.pace = .paced then s.rederive l else s))
      (.liftEvent .stopped)) (fun c => { c with liftStopped := true }) := by
  simp only [State.stopLift, State.eachLane_modLane]
  rfl

theorem WorkAll.stopLift (h : WorkAll s a t) (hloss : t.pacing.syncLoss.isSome = true) : WorkAll s a t.stopLift := by
  rw [State.stopLift_eq]
  refine .raise _ (.append _ (Work.everyLane (fun φ l u h => ?_) (.stopLift h hloss))) fun c hc => ?_
  · split
    · exact h.rederive
    · next hp =>
      have hfree : (u.lane l).settings.pace = .free := by
        cases hpace : (u.lane l).settings.pace with
        | free => rfl
        | paced => exact absurd hpace hp
      exact h.slip (.freeFollows _ _ hfree)
  · exact absurd (congrArg CauseSet.liftStopped hc) (by simp [CauseSet.empty])

end Sys2Proof.Machine

/-! How the requests and the other commands are made of moves. -/

namespace Sys2Proof.Machine

open Sys2Proof.Safety (CountsBounded PacingSound)

variable {s t : State} {φ : Lane.Index → Slack} {b a : Bool} {l : Lane.Index} {σ σ' : Slack} {gates : Gates}
  {slot : Slot}

/-! ## Settings (R120, R121) -/

theorem WorkAll.setPacing (h : WorkAll s a t) {p : Pacing} (hp : PacingSound t.pacing → PacingSound p)
    (hlift : p.lift = t.pacing.lift ∨ p.lift = .running) : WorkAll s a { t with pacing := p } :=
  .pacing p h hp hlift

/-- The append does not read the pacing that stands when it is made. -/
theorem State.append_setPacing (t : State) (p q : Pacing) (body : RecordBody) :
    { (State.append { t with pacing := p } body) with pacing := q } = State.append { t with pacing := q } body := by
  by_cases hroom : t.reports.records.length < Config.reportCapacity
  · by_cases hmark : t.reports.records.length + 1 = Config.backlogMark <;>
      simp only [State.append, State.raise, hroom, hmark, if_true, if_false]
  · simp only [State.append, State.raise, hroom, if_false]

/-- The lift resumed, where it was STOPPED, and a new pacing: RESUMED is appended over the new pacing (R114). -/
theorem State.resumed_eq (t : State) (q : Pacing) :
    { (if t.pacing.lift = .stopped then t.resumeLift else t) with pacing := q } =
      if t.pacing.lift = .stopped then State.append { t with pacing := q } (.liftEvent .running)
      else { t with pacing := q } := by
  split
  · exact State.append_setPacing t _ q _
  · rfl

theorem resumed_pacing (t : State) :
    (if t.pacing.lift = .stopped then t.resumeLift else t).pacing = { t.pacing with lift := .running } := by
  split
  · simp [State.resumeLift]
  · next h =>
    cases hl : t.pacing.lift with
    | stopped => exact absurd hl h
    | running => rw [← hl]

/-- A pacing with the lift RUNNING, RESUMED appended where it was STOPPED. -/
theorem WorkAll.resumed (h : WorkAll s a t) {p : Pacing} (hp : PacingSound t.pacing → PacingSound p)
    (hlift : p.lift = .running) :
    WorkAll s a { (if t.pacing.lift = .stopped then t.resumeLift else t) with pacing := p } := by
  rw [State.resumed_eq]
  have hset : WorkAll s a { t with pacing := p } := h.setPacing hp (.inr hlift)
  split
  · exact .append _ hset
  · exact hset

theorem WorkAll.setSource (h : WorkAll s a t) (src : PaceSource) : WorkAll s a (t.setSource src) := by
  unfold State.setSource
  split
  · exact h
  · next hsrc =>
    cases src with
    | internal =>
      simp only [State.toInternal, resumed_pacing]
      refine h.resumed (fun hp => ?_) rfl
      simp [PacingSound]
    | external =>
      have hint : t.pacing.source = .internal := by
        cases hs : t.pacing.source with
        | external => exact absurd hs.symm hsrc
        | internal => rfl
      refine h.setPacing (fun hp => ?_) (.inl rfl)
      simp [PacingSound, hp.2.1 hint]

theorem WorkAll.checkSyncLoss (h : WorkAll s a t) : WorkAll s a t.checkSyncLoss := by
  unfold State.checkSyncLoss
  split
  · next ms hms =>
    split
    · exact h.stopLift (by simp [hms])
    · exact h
  · exact h

theorem Work.disableLane (h : WorkAt s φ a l .settled t) (hg : (t.lane l).grant = none) :
    WorkAt s φ a l .settled (t.disableLane l) := by
  unfold State.disableLane
  extract_lets wasHeld disabled voided noted
  have hdisabled : WorkAt s φ a l .astray disabled := h.modLane (.disable _ _ hg)
  have hvoided : WorkAt s φ a l .astray voided := .bus _ hdisabled
  refine Work.rederive (gates := .astray) ?_
  simp only [noted]
  split
  · exact .append _ hvoided
  · exact hvoided

theorem Work.enableLane (h : WorkAt s φ a l .settled t) (hm : (t.lane l).mode = .disabled) :
    WorkAt s φ a l .settled (t.enableLane l) :=
  Work.rederive (gates := .astray) (h.modLane (.enable _ _ hm))

theorem LaneMode.eq_disabled {m : LaneMode} (h : m.enabled = false) : m = .disabled := by
  cases m with
  | disabled => rfl
  | _ => cases h

theorem Work.setEnable (h : WorkAt s φ a l .settled t) (v : Bool)
    (hg : v ≠ (t.lane l).mode.enabled → (t.lane l).grant = none) : WorkAt s φ a l .settled (t.setEnable l v) := by
  unfold State.setEnable
  split
  · exact h
  · next hv =>
    cases v with
    | true => exact h.enableLane (LaneMode.eq_disabled (by simpa using hv))
    | false => exact h.disableLane (hg hv)

theorem Work.setPace (h : WorkAt s φ a l .settled t) (p : PaceMode) : WorkAt s φ a l .settled (t.setPace l p) := by
  unfold State.setPace
  split
  · exact h
  · extract_lets repaced cleared
    have hrepaced : WorkAt s φ a l .astray repaced := h.modLane (.repace _ _ _ p)
    refine Work.rederive (gates := .astray) ?_
    simp only [cleared]
    split
    · exact (hrepaced.clearFaults _).slacken _
    · exact hrepaced

theorem Work.setFaultMode (h : WorkAt s φ a l .settled t) (f : FaultMode) :
    WorkAt s φ a l .settled (t.setFaultMode l f) := by
  unfold State.setFaultMode
  split
  · exact h
  · exact Work.modLane h (.refault _ _ f)

/-- The named settings, in whatever order they are taken (log entries 13 and 25). -/
theorem Work.setNamed (h : WorkAt s φ a l .settled t) (n : NamedSettings)
    (hg : ∀ v ∈ n.enable, v ≠ (t.lane l).mode.enabled → (t.lane l).grant = none) :
    WorkAt s φ a l .settled (t.setNamed l n) := by
  unfold State.setNamed
  extract_lets enable pace fault x
  have henable : WorkAt s φ a l .settled (enable t) := by
    simp only [enable]
    split
    · exact h
    · next v hv => exact h.setEnable v (hg v hv)
  have hpace {t : State} (h : WorkAt s φ a l .settled t) : WorkAt s φ a l .settled (pace t) := by
    simp only [pace]
    split
    · exact h
    · exact h.setPace _
  have hfault {t : State} (h : WorkAt s φ a l .settled t) : WorkAt s φ a l .settled (fault t) := by
    simp only [fault]
    split
    · exact h
    · exact h.setFaultMode _
  split
  · split
    · exact hfault (hpace henable)
    · exact hpace (hfault henable)
  · exact hfault (hpace henable)

/-! ## Requests (R167) -/

/-- What a request's owner has done, amid the request. -/
def Served.Work (s : State) : Served → Prop
  | .answered t _ _ => WorkAll s true t
  | .begun t => Sys2Proof.Machine.Work s ⟨Phase.allSettled, false, false⟩ (Served.begun t).finish

theorem served_answered {r : Result} {bs : List Byte} (h : WorkAll s true t) : (Served.answered t r bs).Work s := h

theorem served_refuse {r : Result} (h : WorkAll s true t) : (Served.refuse t r).Work s := h

theorem Served.Work.finish {x : Served} (h : x.Work s) : WorkAll s false x.finish := by
  cases x with
  | answered t r bs => exact .answer r bs h
  | begun t => exact h

/-- What can be taken is waiting in the queue. -/
theorem oldestWaiting_of_takeable {r : Request} (h : s.takeable = some r) : oldestWaiting s.trunk.queue = some r := by
  unfold State.takeable at h
  split at h
  · cases h
  · exact h

theorem takeable_of_takes {code : Byte} {ps : List Byte} (h : s.takes code = some ps) :
    ∃ r, s.takeable = some r ∧ r.payload = code :: ps := by
  unfold State.takes at h
  split at h
  · next r hr =>
    split at h
    · next c params hp =>
      split at h
      · next hc =>
        cases h
        exact ⟨r, hr, by rw [hp, hc]⟩
      · cases h
    · cases h
  · cases h

theorem workAll_ask {r : Request} (h : s.takeable = some r) : WorkAll s true s :=
  .ask (workAll_start s) (by rw [oldestWaiting_of_takeable h]; rfl)

theorem workDone_serve (code : Byte) {f : List Byte → State → Served}
    (hf : ∀ ps, WorkAll s true s → (f ps s).Work s) : WorkDone s (s.serve code f) := by
  unfold State.serve
  split
  · next ps hps =>
    obtain ⟨r, hr, -⟩ := takeable_of_takes hps
    exact (Served.Work.finish (hf ps (workAll_ask hr))).done
  · exact .start

theorem workDone_serveLane (code : Byte) {f : Lane.Index → State → Served}
    (hf : ∀ l, WorkAll s true s → (f l s).Work s) : WorkDone s (s.serve code (serveLane f)) := by
  refine workDone_serve code fun ps h => ?_
  unfold serveLane
  split
  · split
    · exact hf _ h
    · exact served_refuse h
  · exact served_refuse h

/-! ## The requests of the table store and of the pass record store (R8 to R14, R28 to R33) -/

theorem serveLoadBegin_work (ps : List Byte) (h : WorkAll s true s) : (serveLoadBegin ps s).Work s := by
  unfold serveLoadBegin
  split
  · split
    · exact h
    · next hload =>
      split
      · simp only []
        split
        · exact Work.loadBegun _ _ _ _ h hload
        · exact h
      · exact h
  · exact h

theorem serveLoadBlock_work (ps : List Byte) (h : WorkAll s true s) : (serveLoadBlock ps s).Work s := by
  unfold serveLoadBlock
  split
  · exact h
  · split
    · exact h
    · split
      · exact h
      · split
        · exact h
        · next hload =>
          split
          · exact h
          · split
            · exact h
            · next hx => exact Work.blockWritten _ h hload hx

theorem serveLoadEnd_work (ps : List Byte) (h : WorkAll s true s) : (serveLoadEnd ps s).Work s := by
  unfold serveLoadEnd
  split
  · split
    · exact h
    · split
      · exact h
      · next x hload =>
        split
        · exact h
        · next htable =>
          split
          · exact h
          · next hx =>
            have htable : x.table = _ := not_not.1 htable
            rw [← htable]
            exact Work.checkBegun _ h hload (by omega)
  · exact h

theorem serveLoadAbort_work (ps : List Byte) (h : WorkAll s true s) : (serveLoadAbort ps s).Work s := by
  unfold serveLoadAbort
  split
  · split
    · exact h
    · next hload => exact Work.loadAborted h hload
  · exact h

theorem serveTableActivate_work (ps : List Byte) (h : WorkAll s true s) : (serveTableActivate ps s).Work s := by
  unfold serveTableActivate
  split
  · split
    · exact h
    · split
      · exact h
      · next hload =>
        split
        · next hk => exact Work.activated _ h (by simpa using hload) hk
        · exact h
  · exact h

theorem serial_of_storable {f : StoredForm} (h : s.storable f = true) : 1 ≤ f.record.serial := by
  simp only [State.storable, Bool.and_eq_true, decide_eq_true_eq] at h
  obtain ⟨⟨hserial, -⟩, -⟩ := h
  omega

theorem servePassStore_work (ps : List Byte) (h : WorkAll s true s) : (servePassStore ps s).Work s := by
  unfold servePassStore
  split
  · exact h
  · extract_lets f stored
    split
    · exact h
    · next hstorable =>
      have hserial : 1 ≤ f.record.serial := serial_of_storable (by simpa using hstorable)
      split
      · next r hr =>
        split
        · exact h
        · next hlane => exact Work.storePass f.record h hserial rfl (.inl ⟨r, hr, hlane⟩)
      · next hr =>
        split
        · exact h
        · next hroom => exact Work.storePass f.record h hserial rfl (.inr ⟨hr, by omega⟩)

theorem servePassRemove_work (ps : List Byte) (h : WorkAll s true s) : (servePassRemove ps s).Work s := by
  unfold servePassRemove
  split
  · simp only []
    split
    · exact h
    · next r hr =>
      split
      · exact h
      · next hlane => exact Work.removePass h hr hlane
  · exact h

theorem assess_computed {commit : Bool} {serial : Nat} {r : PassRecord} {x : Breakdown}
    (h : s.assess commit serial = .computed r x) :
    s.lookupPass serial = some r ∧ (commit = true → r.grantLane = none) := by
  unfold State.assess at h
  split at h
  · cases h
  · next q hq =>
    split at h
    · cases h
    · split at h
      · cases h
      · split at h
        · cases h
        · cases h
        · cases h
        · next hlane _ =>
          cases h
          exact ⟨hq, fun hc => by simpa [hc] using hlane⟩

/-- The record that a lookup gives has the serial looked up. -/
theorem serial_of_lookupPass {serial : Nat} {r : PassRecord} (h : s.lookupPass serial = some r) :
    r.serial = serial := by
  unfold State.lookupPass at h
  split at h
  · cases h
  · simpa using List.find?_some h

theorem serveRefundCommit_work (ps : List Byte) (h : WorkAll s true s) : (serveRefundCommit ps s).Work s := by
  unfold serveRefundCommit
  split
  · split
    · exact h
    · next r x hx =>
      obtain ⟨hr, hlane⟩ := assess_computed hx
      split
      · exact h
      · rw [serial_of_lookupPass hr]
        exact Work.append _ (.refundPass _ h hr (hlane rfl))
  · exact h

/-! ## The requests that read (R16, R17, R31, R33, R130, R144) -/

theorem serveTableInfo_work (ps : List Byte) (h : WorkAll s true s) : (serveTableInfo ps s).Work s := by
  fun_cases serveTableInfo <;> exact h

theorem serveTableRead_work (ps : List Byte) (h : WorkAll s true s) : (serveTableRead ps s).Work s := by
  fun_cases serveTableRead <;> exact h

theorem servePassFetch_work (ps : List Byte) (h : WorkAll s true s) : (servePassFetch ps s).Work s := by
  fun_cases servePassFetch <;> exact h

theorem servePassScan_work (ps : List Byte) (h : WorkAll s true s) : (servePassScan ps s).Work s := by
  fun_cases servePassScan <;> exact h

theorem serveCountersRead_work (ps : List Byte) (h : WorkAll s true s) : (serveCountersRead ps s).Work s := by
  fun_cases serveCountersRead <;> exact h

theorem serveRefundQuote_work (ps : List Byte) (h : WorkAll s true s) : (serveRefundQuote ps s).Work s := by
  fun_cases serveRefundQuote <;> exact h

/-! ## The requests of the gate drive (R101 to R123) -/

theorem serveHold_work (l : Lane.Index) (h : WorkAll s true s) : (serveHold l s).Work s := by
  unfold serveHold
  split
  · next hm => exact h.atLane l fun h => Work.hold h hm
  · exact h
  · exact h

theorem serveRelease_work (l : Lane.Index) (h : WorkAll s true s) : (serveRelease l s).Work s := by
  unfold serveRelease
  split
  · next hm => exact h.atLane l fun h => Work.unhold h hm
  · next hm =>
    refine h.atLane l fun h => Work.rederive (gates := .astray) (Work.modLane h (.setMode _ _ _ ?_ ?_ ?_ ?_)) <;>
      simp [hm, LaneMode.serving]
  · exact h
  · exact h

/-- A HELD lane without a grant takes another held command. -/
theorem Work.setHeld (h : WorkAt s φ a l .settled t) {c : GateCommand} (c' : GateCommand)
    (hm : (t.lane l).mode = .held c) :
    WorkAt s φ a l .astray (t.modLane l (Lane.setMode (.held c'))) :=
  h.modLane (.setHeld _ _ c c' hm)

theorem serveGateCommand_work (ps : List Byte) (h : WorkAll s true s) : (serveGateCommand ps s).Work s := by
  unfold serveGateCommand
  split
  · split
    · split
      · next hm => exact h.atLane _ fun h => Work.rederive (Work.setHeld h _ hm)
      · exact h
    · exact h
  · exact h

theorem serveFaultClear_work (l : Lane.Index) (h : WorkAll s true s) : (serveFaultClear l s).Work s := by
  unfold serveFaultClear
  split
  · exact h
  · split
    · exact h
    · exact h.atLane l fun h => h.clearFaults _

theorem serveLaneReset_work (l : Lane.Index) (h : WorkAll s true s) : (serveLaneReset l s).Work s :=
  h.atLane l fun h => Work.resetLane h

theorem configureLane_work (l : Lane.Index) (n : NamedSettings) (given : Nat → Bool) (value : Nat → Nat)
    (h : WorkAll s true s) : (s.configureLane l n given value).Work s := by
  unfold State.configureLane
  split
  · exact h
  · next hchange =>
    have hconfigured : WorkAll s true
        (s.modLane l (fun x => { x with settings := x.settings.configured given value })) :=
      h.atLane l fun h => Work.modLane h (.configured _ _ given value)
    refine hconfigured.atLane l fun h => Work.setNamed h n fun v hv hne => ?_
    simp only [State.lane_modLane_same] at hne ⊢
    by_contra hg
    refine hchange ?_
    have hv' : n.enable = some v := hv
    simp [Lane.wouldChange, hv', hne, Option.isSome_iff_ne_none.2 hg]

theorem serveLaneConfig_work (ps : List Byte) (h : WorkAll s true s) : (serveLaneConfig ps s).Work s := by
  unfold serveLaneConfig
  split
  · split
    · exact h
    · simp only []
      split
      · exact configureLane_work _ _ _ _ h
      · exact h
  · exact h

theorem serveBankConfig_work (ps : List Byte) (h : WorkAll s true s) : (serveBankConfig ps s).Work s := by
  unfold serveBankConfig
  split
  · extract_lets given pacing numbered numbers
    have hnumbers (src : Option PaceSource) : (numbers src).Work s := by
      have hnumbered : WorkAll s true numbered := h.setPacing (fun hp => hp) (.inl rfl)
      have hsource : WorkAll s true (match src with | none => numbered | some src => numbered.setSource src) := by
        split
        · exact hnumbered
        · exact hnumbered.setSource _
      simp only [numbers]
      refine served_answered ?_
      split
      · exact hsource.checkSyncLoss
      · exact hsource
    split
    · split
      · exact h
      · exact hnumbers (some _)
    · exact hnumbers none
  · exact h

/-! ## The requests of the count unit, the day clock and the report queue (R131 to R140, R184) -/

theorem serveCountersClearSeason_work (ps : List Byte) (h : WorkAll s true s) :
    (serveCountersClearSeason ps s).Work s := by
  unfold serveCountersClearSeason
  split
  · split
    · next ls _ =>
      refine List.foldlRecOn (motive := fun t => WorkAll s true t) ls _ h fun t ht l _ => ?_
      exact WorkAll.atLane ht l fun h => h.count (by simp +contextual [CountsBounded, Counts.clearSeason])
    · exact h
  · exact h

theorem timeTaken_lt (v : Nat) : timeTaken v < Config.daySeconds := by
  simp only [timeTaken, Config.daySeconds]
  omega

theorem serveTimeSet_work (ps : List Byte) (h : WorkAll s true s) : (serveTimeSet ps s).Work s := by
  unfold serveTimeSet
  split
  · exact Work.timeSet h (timeTaken_lt _)
  · exact h

theorem serveDayOpen_work (ps : List Byte) (h : WorkAll s true s) : (serveDayOpen ps s).Work s := by
  unfold serveDayOpen
  split
  · simp only []
    split
    · exact h
    · split
      · exact h
      · next hd _ _ ho => exact Work.openingBegun h (by omega) (timeTaken_lt _) ho
  · exact h

theorem serveReportConfig_work (ps : List Byte) (h : WorkAll s true s) : (serveReportConfig ps s).Work s := by
  unfold serveReportConfig
  split
  · exact Work.reports _ h rfl rfl
  · exact h

/-- A lane's grant ended at DAY_CLOSE (R95, R139). -/
theorem Work.closeGrant (h : WorkAt s φ a l .settled t) : WorkAt s φ a l ⟨.astray, .ended⟩ (t.closeGrant l) := by
  unfold State.closeGrant
  split
  · next hg =>
    have hended : WorkAt s φ a l ⟨.follow, .ended⟩ t := h.slip (.vacant _ _ hg)
    exact hended.slip (.slacken _ _ _ _ (.inl rfl))
  · next g hg =>
    have hreleased : WorkAt s φ a l ⟨.astray, .vacated⟩ ((t.reportEnd l g).release l g) := by
      simpa using Work.release (h.reportEnd g) (by simp [Slack.settled])
        ((Safety.reportEnd_grant t l l g).trans hg) rfl
    exact hreleased.modLane (.endHold _ _ _ (.inl rfl))

theorem State.closeGrant_clock (t : State) (l : Lane.Index) : (t.closeGrant l).clock = t.clock := by
  unfold State.closeGrant
  split
  · rfl
  · simp only [State.modLane_clock, State.release, State.setGrantLane_clock, State.reportEnd]
    split <;> simp [State.reportCompleted, State.reportLapsed]

theorem clock_foldl {α : Type} {f : State → α → State} (hf : ∀ t x, (f t x).clock = t.clock) (xs : List α) (t : State) :
    (xs.foldl f t).clock = t.clock :=
  List.foldlRecOn (motive := fun u => u.clock = t.clock) xs f rfl fun u hu _ _ => (hf u _).trans hu

theorem grant_foldl_append {α : Type} (f : α → RecordBody) (xs : List α) (t : State) (k : Lane.Index) :
    (xs.foldl (fun t x => t.append (f x)) t).lane k = t.lane k :=
  List.foldlRecOn (motive := fun u => u.lane k = t.lane k) xs _ rfl fun u hu _ _ => (State.append_lane u _ k).trans hu

theorem derive_grant_none_all {t : State} {l k : Lane.Index} (h : (t.lane k).grant = none) :
    ((t.derive l).lane k).grant = none :=
  Option.not_isSome_iff_eq_none.1 (by
    rw [Safety.grant_isSome_of_account (Safety.account_derive l t k), h]
    simp)

theorem grant_none_foldl {f : State → Lane.Index → State} {k : Lane.Index} {t : State}
    (hf : ∀ t l, (t.lane k).grant = none → ((f t l).lane k).grant = none) {ls : List Lane.Index}
    (h : (t.lane k).grant = none) : ((ls.foldl f t).lane k).grant = none :=
  List.foldlRecOn (motive := fun u => (u.lane k).grant = none) ls f h fun u hu l _ => hf u l hu

/-- Steps 2 and 3 of R139 at every lane: the credentials gone, the held commands CLOSE, the gates closed. -/
def State.closeLanes (t : State) : State :=
  State.eachLane { t with lanes := mapLanes Lane.dayClose t.lanes } (fun l s => s.derive l)

theorem closeLanes_work (h : Work s ⟨fun _ => ⟨.astray, .ended⟩, false, a⟩ t) : WorkAll s a t.closeLanes := by
  have hclosed : Work s ⟨fun _ => .astray, false, a⟩ (t.eachLane (fun l u => u.modLane l Lane.dayClose)) :=
    Work.everyLane (fun φ l u h => h.modLane (.dayClose _ _ _ (.inr rfl))) h
  rw [State.eachLane_modLane, ← mapLanes_eq] at hclosed
  exact Work.everyLane (fun φ l u h => Work.derive h) hclosed

theorem closeLanes_clock (t : State) : t.closeLanes.clock = t.clock := by
  rw [State.closeLanes, State.eachLane, clock_foldl State.derive_clock]

theorem closeLanes_grant_none {k : Lane.Index} (h : (t.lane k).grant = none) : (t.closeLanes.lane k).grant = none := by
  rw [State.closeLanes, State.eachLane]
  refine grant_none_foldl (fun _ _ => derive_grant_none_all) ?_
  rw [State.lane_mapLanes]
  exact h

/-- DAY_CLOSE: every grant ended, HOLD_ENTERED for the lanes that were to be held, the lanes closed, the day state and
the DAY_SUMMARY last (R139). -/
theorem State.closeDay_eq (t : State) (d : Nat) : ∃ holding : List Lane.Index, t.closeDay d =
    let closed := State.closeLanes
      (holding.foldl (fun s l => s.append (.laneEvent l .holdEntered)) (t.eachLane State.closeGrant))
    let dated := { closed with clock := { closed.clock with dayState := .dayClosed d } }
    dated.append (dated.daySummary d) :=
  ⟨_, rfl⟩

theorem WorkAll.closeDay {d : Nat} (h : WorkAll s a t) (hd : t.clock.dayState = .dayOpen d) :
    WorkAll s a (t.closeDay d) := by
  obtain ⟨holding, heq⟩ := State.closeDay_eq t d
  rw [heq]
  have hended : Work s ⟨fun _ => ⟨.astray, .ended⟩, false, a⟩ (t.eachLane State.closeGrant) :=
    Work.everyLane (fun φ l u h => h.closeGrant) h
  have hnoted := List.foldlRecOn (motive := fun u => Work s ⟨fun _ => ⟨.astray, .ended⟩, false, a⟩ u) holding
    (fun s l => s.append (.laneEvent l .holdEntered)) hended fun _ h _ _ => .append _ h
  refine .append _ (.dayClosed (closeLanes_work hnoted) ?_ fun k => closeLanes_grant_none ?_)
  · rw [closeLanes_clock, clock_foldl (fun _ _ => State.append_clock ..), State.eachLane,
      clock_foldl (fun u l => State.closeGrant_clock u l), hd]
  · rw [grant_foldl_append (fun l => .laneEvent l .holdEntered)]
    exact Safety.foldl_closeGrant_grant (.inl (mem_allLanes k))

theorem serveDayClose_work (ps : List Byte) (h : WorkAll s true s) : (serveDayClose ps s).Work s := by
  unfold serveDayClose
  split
  · split
    · next hd => exact WorkAll.closeDay h hd
    · exact h
  · exact h

/-! ## The trunk (R163 to R171) -/

theorem WorkAll.goodFrame (h : WorkAll s false t) (kind tag : Byte) (payload : List Byte) :
    WorkAll s false (t.goodFrame kind tag payload) := by
  unfold State.goodFrame
  split
  · exact .offer _ _ h
  · split
    · exact .reports _ h rfl rfl
    · split
      · exact .reports _ h rfl rfl
      · exact h

theorem WorkDone.receiveByte (h : WorkDone s t) (x : Byte) : WorkDone s (t.receiveByte x) := by
  unfold State.receiveByte
  split
  · split
    · exact .receiver _ h
    · exact h
  · split
    · exact .receiver _ h
    · exact .transmit (.receiver _ h)
    · exact (WorkAll.goodFrame (Work.all (.receiver _ h)) _ _ _).done

theorem WorkDone.receive (h : WorkDone s t) (bytes : List Byte) : WorkDone s (t.receive bytes) :=
  List.foldlRecOn bytes _ h fun _ h x _ => WorkDone.receiveByte h x

theorem State.frameEnded_eq (t : State) (f : OutFrame) :
    t.frameEnded f = if f.source = .answer .response ∧ t.trunk.resetting = true ∧ f.payload = unitResetResponse then
      (t.lineFreed f.source).warmStart else t.lineFreed f.source := by
  obtain ⟨source, kind, tag, payload⟩ := f
  cases source with
  | attention => simp [State.frameEnded, State.lineFreed]
  | batch => simp [State.frameEnded, State.lineFreed]
  | answer a => cases a <;> simp [State.frameEnded, State.lineFreed]

theorem workAll_frameEnded {f : OutFrame} (hf : s.trunk.sending = some f) : WorkAll s false (s.frameEnded f) := by
  have hfreed : WorkAll s false (s.lineFreed f.source) := .freed (workAll_start s) hf
  rw [State.frameEnded_eq]
  split
  · exact .warmStart hfreed
  · exact hfreed

end Sys2Proof.Machine

/-! Every command, and so every step, is made of moves. -/

namespace Sys2Proof.Machine

open Sys2Proof.Safety (CountsBounded PacingSound)

variable {s t : State} {l : Lane.Index}

/-! ## The events of the lanes -/

theorem beamInputChange_work (l : Lane.Index) (beam : Beam) (blocked : Bool) :
    WorkDone s (if blocked = ((s.lane l).beam beam).raw then s
      else (s.modLane l (fun x => x.setBeam beam ((x.beam beam).change blocked))).transmit) := by
  split
  · exact .start
  · exact WorkAll.done ((workAll_start s).atLane l fun h => h.modLane (.beamChange _ _ beam blocked))

theorem beamChangeAccepted_work (l : Lane.Index) (beam : Beam) (ms : Nat)
    (hr : ((s.lane l).beam beam).running.isSome = true) : WorkDone s ((s.elapse ms).beamAccepted l beam).transmit := by
  refine WorkAll.done ((workAll_elapse s ms).atLane l fun h => h.beamAccepted ?_)
  cases beam <;> simpa [Lane.beam, Lane.elapse] using hr

theorem execBeamChangeAccepted_work (n : Nat) (beam : Beam) (ht : execBeamChangeAccepted n beam s = .next t) :
    WorkDone s t := by
  cases ht
  refine workDone_atLane s n fun l => ?_
  split
  · exact .start
  · next hr => exact beamChangeAccepted_work l beam _ (by rw [hr]; rfl)

theorem loiter_work (l : Lane.Index) (ms : Nat) (ht : (s.lane l).loiterTimer.isSome = true) :
    WorkAll s false ((s.elapse ms).modLane l (fun x => { x with loiterTimer := none, loiterMark := true })) :=
  (workAll_elapse s ms).atLane l fun h => h.modLane (.loiter _ _ (by simpa [Lane.elapse] using ht))

theorem grantDeadline_work {g : Grant} (l : Lane.Index) (ms : Nat) (hg : (s.lane l).grant = some g) :
    WorkDone s ((((s.elapse ms).reportEnd l g).commonEnd l g).transmit) := by
  refine WorkAll.done ((workAll_elapse s ms).atLane l fun h => ?_)
  have hrun : (((s.elapse ms).reportEnd l g).lane l).grant = some { g with lifetime := g.lifetime.run ms } := by
    simp [Safety.reportEnd_grant, Lane.elapse, hg]
  exact (h.reportEnd g).commonEnd hrun rfl

theorem execLoiter_work (n : Nat) (ht : execLoiter n s = .next t) : WorkDone s t := by
  cases ht
  refine workDone_atLane s n fun l => ?_
  split
  · exact .start
  · next timer htimer =>
    have hmarked := loiter_work l timer.left (by rw [htimer]; rfl)
    refine WorkAll.done ?_
    split
    · exact hmarked
    · exact .append _ (hmarked.atLane l fun h => h.count)

theorem execGrantDeadline_work (n : Nat) (ht : execGrantDeadline n s = .next t) : WorkDone s t := by
  cases ht
  refine workDone_atLane s n fun l => ?_
  split
  · exact .start
  · next g hg => exact grantDeadline_work l _ hg

theorem execArmClosed_work (n : Nat) (active : Bool) (ht : execArmClosed n active s = .next t) : WorkDone s t := by
  cases ht
  refine workDone_atLane s n fun l => ?_
  split
  · exact .start
  · exact WorkAll.done ((workAll_start s).atLane l fun h => Work.settle (Work.modLane h (.armInput _ _ active)))

theorem execCloseLimitExpiry_work (n : Nat) (ht : execCloseLimitExpiry n s = .next t) : WorkDone s t := by
  cases ht
  refine workDone_atLane s n fun l => ?_
  split
  · exact WorkAll.done ((workAll_elapse s _).atLane l fun h => h.setFault _)
  · exact .start

theorem execObstructionInputChange_work (n : Nat) (active : Bool)
    (ht : execObstructionInputChange n active s = .next t) : WorkDone s t := by
  cases ht
  refine workDone_atLane s n fun l => ?_
  split
  · exact .start
  · exact WorkAll.done ((workAll_start s).atLane l fun h => h.modLane (.obstructionChange _ _ active))

theorem execObstructionChangeAccepted_work (n : Nat) (ht : execObstructionChangeAccepted n s = .next t) :
    WorkDone s t := by
  cases ht
  refine workDone_atLane s n fun l => ?_
  split
  · exact .start
  · exact WorkAll.done ((workAll_elapse s _).atLane l fun h => h.obstructionAccepted)

theorem execRearmTimerExpiry_work (n : Nat) (ht : execRearmTimerExpiry n s = .next t) : WorkDone s t := by
  cases ht
  refine workDone_atLane s n fun l => ?_
  split
  · next hr =>
    exact WorkAll.done ((workAll_elapse s _).atLane l fun h => h.rearmExpired (by simp [Lane.elapse, hr]))
  · exact .start

theorem execWindowOpenAt_work (n : Nat) (ht : execWindowOpenAt n s = .next t) : WorkDone s t := by
  cases ht
  refine workDone_atLane s n fun l => ?_
  split
  · exact .start
  · split
    · exact .start
    · exact WorkAll.done ((workAll_elapse s _).atLane l fun h => Work.rederive (Work.modLane h (.openReached _ _ _)))

theorem execWindowCloseAt_work (n : Nat) (ht : execWindowCloseAt n s = .next t) : WorkDone s t := by
  cases ht
  refine workDone_atLane s n fun l => ?_
  split
  · split
    · exact .start
    · exact WorkAll.done ((workAll_elapse s _).atLane l fun h => Work.rederive (Work.modLane h (.closeReached _ _ _)))
  · exact .start

/-! ## The events of the carrier, the lane bus, the report queue and the clock -/

theorem execCarrierSyncEdge_work (ht : execCarrierSyncEdge s = .next t) : WorkDone s t := by
  cases ht
  split
  · next hacc =>
    have hsource : s.pacing.source = .external := by
      simp only [Pacing.accepts, Bool.and_eq_true, beq_iff_eq] at hacc
      exact hacc.1
    refine WorkAll.done (WorkAll.syncEvent ?_ (.inl ?_)) <;> simp only [resumed_pacing]
    · refine (workAll_start s).resumed (fun hp => ?_) rfl
      have hgen : s.pacing.generator.isSome ≠ true := fun hg => by simpa [hsource] using hp.1.1 hg
      simpa [PacingSound, Pacing.edge, hsource] using hgen
    · rfl
  · exact .start

theorem execInternalCarrierTick_work (ht : execInternalCarrierTick s = .next t) : WorkDone s t := by
  cases ht
  split
  · exact .start
  · next timer hgen =>
    refine WorkAll.done (WorkAll.syncEvent ((workAll_elapse s _).setPacing (fun hp => ?_) (.inl rfl)) (.inr rfl))
    have hrun : (s.elapse timer.left).pacing.generator.isSome = true := by
      simp [State.elapse, State.advance, hgen]
    exact ⟨⟨fun _ => hp.1.1 hrun, fun _ => rfl⟩, hp.2⟩

theorem execSyncLoss_work (ht : execSyncLoss s = .next t) : WorkDone s t := by
  cases ht
  split
  · exact .start
  · next ms hms =>
    refine WorkAll.done ((workAll_elapse s _).stopLift ?_)
    simp [State.elapse, State.advance, hms]

theorem execRoundStart_work (ht : execRoundStart s = .next t) : WorkDone s t := by
  cases ht
  split
  · exact .start
  · exact WorkAll.done (WorkAll.visit (.bus _ (workAll_elapse s _)) _)

theorem execReplyReceived_work (bytes : List Byte) (ht : execReplyReceived bytes s = .next t) : WorkDone s t := by
  cases ht
  split
  · exact (workAll_start s).judged _ judge_serialPositive
  · exact .start

theorem execPollTimeout_work (ht : execPollTimeout s = .next t) : WorkDone s t := by
  cases ht
  split
  · exact .start
  · exact (workAll_elapse s _).judged _ (by simp)

theorem execDwellExpiry_work (ht : execDwellExpiry s = .next t) : WorkDone s t := by
  cases ht
  split
  · exact .start
  · exact WorkAll.done (.reports _ (workAll_elapse s _) rfl rfl)

theorem execClockSecond_work (ht : execClockSecond s = .next t) : WorkDone s t := by
  cases ht
  exact WorkAll.done (.tick (workAll_elapse s _))

/-! ## The trunk's own requests and events -/

theorem execUnknownRequest_work (ht : execUnknownRequest s = .next t) : WorkDone s t := by
  cases ht
  split
  · exact .start
  · next hr =>
    have hanswered : WorkDone s (s.answer .badRequest []).transmit := WorkAll.done (.answer _ _ (workAll_ask hr))
    split
    · exact hanswered
    · split
      · exact .start
      · exact hanswered

theorem execIdent_work (ht : execIdent s = .next t) : WorkDone s t := by
  cases ht
  refine workDone_serve _ fun ps h => ?_
  split <;> exact h

theorem execStatusRead_work (ht : execStatusRead s = .next t) : WorkDone s t := by
  cases ht
  refine workDone_serve _ fun ps h => ?_
  split
  · exact Work.quieten h
  · exact h

theorem execUnitReset_work (ht : execUnitReset s = .next t) : WorkDone s t := by
  cases ht
  refine workDone_serve _ fun ps h => ?_
  split
  · exact Work.resetting h
  · exact h

theorem execFrameSent_work (ht : execFrameSent s = .next t) : WorkDone s t := by
  cases ht
  split
  · exact .start
  · next hf => exact WorkAll.done (workAll_frameEnded hf)

theorem execLoadCheckComplete_work (ht : execLoadCheckComplete s = .next t) : WorkDone s t := by
  cases ht
  split
  · exact .start
  · next hload =>
    split
    · exact .start
    · next hx => exact WorkAll.done (.checkDone (workAll_start s) hload hx)

theorem execDayOpenComplete_work (ht : execDayOpenComplete s = .next t) : WorkDone s t := by
  cases ht
  split
  · next hd => exact WorkAll.done (.openingDone (workAll_start s) hd)
  · exact .start

theorem execLaneStatus_work (ht : execLaneStatus s = .next t) : WorkDone s t := by
  cases ht
  exact workDone_serveLane _ fun _ h => h

/-- A command's one outcome. -/
theorem work_of_next {u : State} (h : WorkDone s u) (ht : Host.Outcome.next (φ := Fault) (ρ := Refusal) u = .next t) :
    WorkDone s t := by
  cases ht
  exact h

/-! ## Every command -/

/-- A command is made of moves, each lane at rest and the transmitter gone on at its end. -/
theorem exec_work (i : Instr) (ht : exec i s = .next t) : WorkDone s t := by
  cases i with
  | coldStart => exact work_of_next (WorkAll.done (.coldStart (workAll_start s))) ht
  | warmStart => exact work_of_next (WorkAll.done (.warmStart (workAll_start s))) ht
  | requestArrival bytes => exact work_of_next (WorkDone.receive .start bytes) ht
  | frameDiscarded bytes => exact work_of_next (WorkDone.receive .start bytes) ht
  | frameSilenceTimeout bytes =>
    exact work_of_next (.receiver _ (.advance _ (.transmit (WorkDone.receive .start bytes)))) ht
  | unexpectedFrame bytes => exact work_of_next (WorkDone.receive .start bytes) ht
  | pauseReports bytes => exact work_of_next (WorkDone.receive .start bytes) ht
  | resumeReports bytes => exact work_of_next (WorkDone.receive .start bytes) ht
  | unknownRequest => exact execUnknownRequest_work ht
  | ident => exact execIdent_work ht
  | statusRead => exact execStatusRead_work ht
  | unitReset => exact execUnitReset_work ht
  | loadBegin => exact work_of_next (workDone_serve _ serveLoadBegin_work) ht
  | loadBlock => exact work_of_next (workDone_serve _ serveLoadBlock_work) ht
  | loadEnd => exact work_of_next (workDone_serve _ serveLoadEnd_work) ht
  | loadCheckComplete => exact execLoadCheckComplete_work ht
  | loadAbort => exact work_of_next (workDone_serve _ serveLoadAbort_work) ht
  | tableActivate => exact work_of_next (workDone_serve _ serveTableActivate_work) ht
  | tableInfo => exact work_of_next (workDone_serve _ serveTableInfo_work) ht
  | tableRead => exact work_of_next (workDone_serve _ serveTableRead_work) ht
  | passStore => exact work_of_next (workDone_serve _ servePassStore_work) ht
  | passFetch => exact work_of_next (workDone_serve _ servePassFetch_work) ht
  | passRemove => exact work_of_next (workDone_serve _ servePassRemove_work) ht
  | passScan => exact work_of_next (workDone_serve _ servePassScan_work) ht
  | laneHold => exact work_of_next (workDone_serveLane _ serveHold_work) ht
  | laneRelease => exact work_of_next (workDone_serveLane _ serveRelease_work) ht
  | gateCommand => exact work_of_next (workDone_serve _ serveGateCommand_work) ht
  | faultClear => exact work_of_next (workDone_serveLane _ serveFaultClear_work) ht
  | laneConfig => exact work_of_next (workDone_serve _ serveLaneConfig_work) ht
  | bankConfig => exact work_of_next (workDone_serve _ serveBankConfig_work) ht
  | laneStatus => exact execLaneStatus_work ht
  | laneReset => exact work_of_next (workDone_serveLane _ serveLaneReset_work) ht
  | countersRead => exact work_of_next (workDone_serve _ serveCountersRead_work) ht
  | countersClearSeason => exact work_of_next (workDone_serve _ serveCountersClearSeason_work) ht
  | dayOpen => exact work_of_next (workDone_serve _ serveDayOpen_work) ht
  | dayOpenComplete => exact execDayOpenComplete_work ht
  | dayClose => exact work_of_next (workDone_serve _ serveDayClose_work) ht
  | timeSet => exact work_of_next (workDone_serve _ serveTimeSet_work) ht
  | refundQuote => exact work_of_next (workDone_serve _ serveRefundQuote_work) ht
  | refundCommit => exact work_of_next (workDone_serve _ serveRefundCommit_work) ht
  | reportConfig => exact work_of_next (workDone_serve _ serveReportConfig_work) ht
  | frameSent => exact execFrameSent_work ht
  | dwellExpiry => exact execDwellExpiry_work ht
  | roundStart => exact execRoundStart_work ht
  | replyReceived bytes => exact execReplyReceived_work bytes ht
  | pollTimeout => exact execPollTimeout_work ht
  | beamInputChange n beam blocked =>
    exact work_of_next (workDone_atLane s n fun l => beamInputChange_work l beam blocked) ht
  | beamChangeAccepted n beam => exact execBeamChangeAccepted_work n beam ht
  | loiter n => exact execLoiter_work n ht
  | grantDeadline n => exact execGrantDeadline_work n ht
  | armClosed n active => exact execArmClosed_work n active ht
  | closeLimitExpiry n => exact execCloseLimitExpiry_work n ht
  | obstructionInputChange n active => exact execObstructionInputChange_work n active ht
  | obstructionChangeAccepted n => exact execObstructionChangeAccepted_work n ht
  | rearmTimerExpiry n => exact execRearmTimerExpiry_work n ht
  | windowOpenAt n => exact execWindowOpenAt_work n ht
  | windowCloseAt n => exact execWindowCloseAt_work n ht
  | carrierSyncEdge => exact execCarrierSyncEdge_work ht
  | internalCarrierTick => exact execInternalCarrierTick_work ht
  | syncLoss => exact execSyncLoss_work ht
  | clockSecond => exact execClockSecond_work ht

/-- A step is made of moves, from the state with the queue's rest, or from the state itself when no command waits. -/
theorem step_work (ht : step s = .next t) :
    ∃ u : State, (∃ cs, u = { s with pending := cs }) ∧ WorkDone u t := by
  unfold step at ht
  split at ht
  · cases ht
    exact ⟨s, ⟨s.pending, rfl⟩, .advance 1 (.transmit .start)⟩
  · next cs _ => exact ⟨_, ⟨cs, rfl⟩, exec_work _ ht⟩

end Sys2Proof.Machine

/-! Commands complete and leave the queue of waiting commands alone. -/

namespace Sys2Proof.Machine

variable {s t : State}

@[simp] theorem State.release_pending (s : State) (l : Lane.Index) (g : Grant) : (s.release l g).pending = s.pending := rfl

@[simp] theorem State.lock_pending (s : State) (l : Lane.Index) (sub : Subject) : (s.lock l sub).pending = s.pending := by
  unfold State.lock
  split <;> rfl

@[simp] theorem State.completeCheck_pending (s : State) (x : LoadTransaction) (sig : Signature) :
    (s.completeCheck x sig).pending = s.pending := by
  unfold State.completeCheck
  extract_lets b computed close
  have hclose (y : ShadowState) : (close y).pending = s.pending := by simp [close]
  split
  · exact hclose _
  · split <;> exact hclose _

@[simp] theorem State.offerRequest_pending (s : State) (tag : Byte) (payload : List Byte) :
    (s.offerRequest tag payload).pending = s.pending := by
  unfold State.offerRequest
  split
  · rfl
  · split <;> rfl

@[simp] theorem State.lineFreed_pending (s : State) (source : FrameSource) :
    (s.lineFreed source).pending = s.pending := by
  unfold State.lineFreed
  split <;> rfl

/-- No move touches the queue of commands that wait. -/
theorem Work.pending {P : Phase} (h : Work s P t) : t.pending = s.pending := by
  induction h with
  | start => rfl
  | blockWritten _ _ _ _ ih => simpa [State.writeBlock] using ih
  | checkBegun _ _ _ _ ih => simpa [Served.finish] using ih
  | openingDone _ _ ih => simpa [State.completeOpening] using ih
  | _ => simpa using ‹State.pending _ = s.pending›

/-- Every command completes. -/
theorem exec_completes (i : Instr) (s : State) : ∃ t, exec i s = .next t := by
  cases i <;> exact ⟨_, rfl⟩

/-- Settles O2: every meaning answers a next state, and no move of a command touches the queue. -/
theorem commandsCompleteAndLeaveTheQueue : Obligations.CommandsCompleteAndLeaveTheQueue := by
  intro c s
  obtain ⟨t, ht⟩ := exec_completes c s
  exact ⟨t, ht, (exec_work c ht).pending⟩

/-- Settles O1: by the definition of a step. -/
theorem stepTakesTheFrontCommand : Obligations.StepTakesTheFrontCommand := by
  refine ⟨fun c rest s h => ?_, fun s h => ?_⟩ <;> simp [step, h]

end Sys2Proof.Machine

/-! What holds of every lane: kept by every command when each move keeps it. -/

namespace Sys2Proof.Machine

open Sys2Proof.Safety (PacingSound)

variable {s t : State}

/-- A grant as it is when it is given (R70). -/
structure Grant.Fresh (g : Grant) : Prop where
  state : g.state = .waiting
  passages : g.passages = 0
  allowance : 1 ≤ g.allowance

/-- What is said of a lane under the bank's pacing, in each slack, and kept by all that happens to lanes. -/
structure LaneInvariant (I : Pacing → Slack → Lane → Prop) : Prop where
  move : ∀ {p σ x σ' y}, LaneMove p σ x σ' y → I p σ x → I p σ' y
  place : ∀ {p gates n x} {g : Grant}, g.Fresh → I p ⟨gates, .ready n⟩ x → I p .astray (x.place g)
  release : ∀ {p σ x}, σ.slot = .sound → I p σ x → I p ⟨.astray, .vacated⟩ x.vacate
  elapse : ∀ {p σ x} (ms : Nat), I p σ x → I p σ (x.elapse ms)
  pacing : ∀ {p q σ x}, (PacingSound p → PacingSound q) → q.lift = p.lift ∨ q.lift = .running → I p σ x → I q σ x
  stopLift : ∀ {p x}, p.syncLoss.isSome = true → I p .settled x → I p.stop ⟨.followIfFree, .sound⟩ x.liftStop
  clearDaily : ∀ {p σ x}, I p σ x → I p σ { x with counts := x.counts.clearDaily }
  coldStart : ∀ x : Lane, I .reset .settled x.coldStart
  warmStart : ∀ {p σ x}, I p σ x → I p.warmStart .settled x.warmStart

/-- What holds of lane `k` is kept by a change of lane `l`, when it holds of the changed lane. -/
theorem lane_update {I : Pacing → Slack → Lane → Prop} {φ : Lane.Index → Slack} {l : Lane.Index} {σ : Slack}
    {t u : State} (h : ∀ k, I t.pacing (φ k) (t.lane k)) (hp : u.pacing = t.pacing)
    (hother : ∀ k, k ≠ l → u.lane k = t.lane k) (hl : I t.pacing σ (u.lane l)) (k : Lane.Index) :
    I u.pacing (Function.update φ l σ k) (u.lane k) := by
  rw [hp]
  by_cases hk : k = l
  · subst hk
    rwa [Function.update_self]
  · rw [Function.update_of_ne hk, hother k hk]
    exact h k

theorem State.lane_map (s : State) (f : Lane → Lane) (p : Pacing) (l : Lane.Index) :
    ({ s with pacing := p, lanes := s.lanes.map f } : State).lane l = f (s.lane l) := by
  simp [State.lane]

@[simp] theorem State.lock_lane (s : State) (l k : Lane.Index) (sub : Subject) : (s.lock l sub).lane k = s.lane k := by
  unfold State.lock
  split <;> rfl

@[simp] theorem State.lock_pacing (s : State) (l : Lane.Index) (sub : Subject) :
    (s.lock l sub).pacing = s.pacing := by
  unfold State.lock
  split <;> rfl

/-- A granted product carries one rider at least (R2). -/
theorem lookupProduct_riders {m : Memory} {code : Nat} {p : Product} (h : lookupProduct m code = some p) :
    1 ≤ p.riders := by
  unfold lookupProduct at h
  split at h
  · cases h
  · split at h
    · cases h
    · cases h
      exact Nat.le_max_left ..

/-- What a tap that is granted has passed (R58). -/
theorem decision_grant {l : Lane.Index} {tap : Tap} {sub : Subject} {p : Product}
    (h : s.decision l tap = .grant sub p) :
    ∃ today, s.clock.dayState = .dayOpen today ∧ s.subject l tap = some sub ∧
      lookupProduct s.products.active sub.record.product = some p ∧ sub.record.refund = none ∧
      sub.record.grantLane = none ∧ s.usageChecks today sub p = none := by
  unfold State.decision at h
  split at h
  · cases h
  · split at h
    · cases h
    · split at h
      · next today hday =>
        unfold State.dayChecks at h
        split at h
        · cases h
        · split at h
          · cases h
          · cases h
          · split at h
            · cases h
            · split at h
              · cases h
              · split at h
                · cases h
                · next q hq =>
                  unfold State.subjectChecks at h
                  split at h
                  · cases h
                  · next p' hp' =>
                    split at h
                    · cases h
                    · split at h
                      · cases h
                      · next hrefund =>
                        split at h
                        · cases h
                        · next hlane =>
                          split at h
                          · cases h
                          · next husage =>
                            cases h
                            exact ⟨today, hday, hq, hp', by simpa using hrefund, by simpa using hlane, husage⟩
      · cases h

theorem newGrant_fresh {l : Lane.Index} {tap : Tap} {sub : Subject} {p : Product}
    (h : s.decision l tap = .grant sub p) : (newGrant s l sub p).Fresh := by
  obtain ⟨-, -, -, hp, -⟩ := decision_grant h
  exact ⟨rfl, rfl, lookupProduct_riders hp⟩

theorem pacingSound_advance {p : Pacing} (ms : Nat) (h : PacingSound p) :
    PacingSound { p with
      syncLoss := p.syncLoss.map (· + ms), generator := p.generator.map (Timer.run · ms),
      sinceSync := p.sinceSync.map (· + ms), sinceEdge := p.sinceEdge.map (· + ms) } := by
  simpa [PacingSound] using h

theorem completeCheck_frame (s : State) (x : LoadTransaction) (sig : Signature) :
    (s.completeCheck x sig).lanes = s.lanes ∧ (s.completeCheck x sig).pacing = s.pacing ∧
      (s.completeCheck x sig).clock = s.clock ∧ (s.completeCheck x sig).passes = s.passes := by
  unfold State.completeCheck
  extract_lets b computed close
  have hclose (y : ShadowState) : (close y).lanes = s.lanes ∧ (close y).pacing = s.pacing ∧
      (close y).clock = s.clock ∧ (close y).passes = s.passes := by simp [close]
  split
  · exact hclose _
  · split <;> exact hclose _

theorem offerRequest_frame (s : State) (tag : Byte) (payload : List Byte) :
    (s.offerRequest tag payload).lanes = s.lanes ∧ (s.offerRequest tag payload).pacing = s.pacing ∧
      (s.offerRequest tag payload).clock = s.clock ∧ (s.offerRequest tag payload).passes = s.passes := by
  unfold State.offerRequest
  split
  · exact ⟨rfl, rfl, rfl, rfl⟩
  · split <;> exact ⟨rfl, rfl, rfl, rfl⟩

theorem lineFreed_frame (s : State) (source : FrameSource) :
    (s.lineFreed source).lanes = s.lanes ∧ (s.lineFreed source).pacing = s.pacing ∧
      (s.lineFreed source).clock = s.clock ∧ (s.lineFreed source).passes = s.passes := by
  unfold State.lineFreed
  split <;> exact ⟨rfl, rfl, rfl, rfl⟩

/-- A move that changes neither lanes nor pacing keeps what holds of the lanes. -/
theorem LaneInvariant.of_frame {I : Pacing → Slack → Lane → Prop} {φ : Lane.Index → Slack} {t u : State}
    (h : ∀ k, I t.pacing (φ k) (t.lane k)) (hl : u.lanes = t.lanes) (hp : u.pacing = t.pacing) (k : Lane.Index) :
    I u.pacing (φ k) (u.lane k) := by
  rw [hp, State.lane_congr hl]
  exact h k

/-- What holds of every lane at rest holds of every lane, in its slack, whatever has been done. -/
theorem LaneInvariant.of_work {I : Pacing → Slack → Lane → Prop} (hI : LaneInvariant I) {P : Phase}
    (h : Work s P t) (hs : ∀ l, I s.pacing .settled (s.lane l)) : ∀ l, I t.pacing (P.lanes l) (t.lane l) := by
  induction h with
  | start => exact hs
  | @lane φ b a t l σ y _ hm ih =>
    refine lane_update (l := l) ih rfl (fun k hk => State.lane_setLane_other t l k y hk) ?_
    rw [State.lane_setLane_same]
    exact hI.move hm (ih l)
  | @place φ b a t l tap sub p gates _ hφ hd ih =>
    refine lane_update (l := l) ih (by simp) (fun k hk => ?_) ?_
    · rw [State.lane_modLane_other _ l k _ hk, State.lock_lane]
    · rw [State.lane_modLane_same, State.lock_lane]
      have hready : I t.pacing ⟨gates, .ready tap.serial⟩ (t.lane l) := by simpa [hφ] using ih l
      exact hI.place (newGrant_fresh hd) hready
  | @release φ b a t l g g' _ hφ _ _ ih =>
    refine lane_update (l := l) ih rfl (fun k hk => State.release_lane_other t g hk) ?_
    rw [State.release_lane_same]
    exact hI.release hφ (ih l)
  | pacing p _ hp hlift ih => exact fun l => hI.pacing hp hlift (ih l)
  | stopLift _ hloss ih =>
    intro l
    rw [State.lane_map]
    exact hI.stopLift hloss (ih l)
  | advance ms _ ih =>
    intro l
    rw [State.lane_advance]
    exact hI.pacing (pacingSound_advance ms) (.inl rfl) (hI.elapse ms (ih l))
  | @openingBegun φ b t d time former _ _ _ _ ih =>
    intro l
    have hlane : (Served.begun (t.acceptOpening d time former)).finish.lane l =
        { t.lane l with counts := (t.lane l).counts.clearDaily } := Safety.acceptOpening_lane t d time former l
    rw [hlane]
    exact hI.clearDaily (ih l)
  | coldStart _ _ =>
    intro l
    rw [Safety.coldStart_lane]
    exact hI.coldStart _
  | warmStart _ ih =>
    intro l
    rw [Safety.warmStart_lane]
    exact hI.warmStart (ih l)
  | append body _ ih => exact LaneInvariant.of_frame ih (by simp) (by simp)
  | raise _ _ _ ih => exact LaneInvariant.of_frame ih rfl rfl
  | notePass _ _ _ _ ih => exact LaneInvariant.of_frame ih rfl rfl
  | refundPass _ _ _ _ ih => exact LaneInvariant.of_frame ih rfl rfl
  | storePass _ _ _ _ _ ih => exact LaneInvariant.of_frame ih rfl rfl
  | removePass _ _ _ ih => exact LaneInvariant.of_frame ih rfl rfl
  | denied _ _ ih => exact LaneInvariant.of_frame ih rfl rfl
  | ridden _ _ ih => exact LaneInvariant.of_frame ih rfl rfl
  | bus _ _ ih => exact LaneInvariant.of_frame ih rfl rfl
  | loadBegun _ _ _ _ _ _ ih => exact LaneInvariant.of_frame ih (by simp) (by simp)
  | blockWritten _ _ _ _ ih => exact LaneInvariant.of_frame ih (by simp [State.writeBlock]) (by simp [State.writeBlock])
  | loadAborted _ _ ih => exact LaneInvariant.of_frame ih (by simp) (by simp)
  | activated _ _ _ _ ih => exact LaneInvariant.of_frame ih (by simp) (by simp)
  | checkBegun _ _ _ _ ih => exact LaneInvariant.of_frame ih (by simp [Served.finish]) (by simp [Served.finish])
  | checkDone _ _ _ ih =>
    obtain ⟨hl, hp, -⟩ := completeCheck_frame _ _ _
    exact LaneInvariant.of_frame ih hl hp
  | openingDone _ _ ih =>
    exact LaneInvariant.of_frame ih (by simp [State.completeOpening]) (by simp [State.completeOpening])
  | dayClosed _ _ _ ih => exact LaneInvariant.of_frame ih rfl rfl
  | timeSet _ _ ih => exact LaneInvariant.of_frame ih rfl rfl
  | tick _ ih => exact LaneInvariant.of_frame ih rfl rfl
  | reports _ _ _ _ ih => exact LaneInvariant.of_frame ih rfl rfl
  | quieten _ ih => exact LaneInvariant.of_frame ih rfl rfl
  | resetting _ ih => exact LaneInvariant.of_frame ih rfl rfl
  | receiver _ _ ih => exact LaneInvariant.of_frame ih rfl rfl
  | offer tag payload _ ih =>
    obtain ⟨hl, hp, -⟩ := offerRequest_frame _ tag payload
    exact LaneInvariant.of_frame ih hl hp
  | ask _ _ ih => exact ih
  | answer _ _ _ ih => exact LaneInvariant.of_frame ih rfl rfl
  | @freed φ b a t f _ _ ih =>
    obtain ⟨hl, hp, -⟩ := lineFreed_frame t f.source
    exact LaneInvariant.of_frame ih hl hp
  | transmit _ ih => exact LaneInvariant.of_frame ih (by simp) (by simp)

/-- What holds of every lane between commands is kept by every step. -/
theorem LaneInvariant.of_step {I : Pacing → Slack → Lane → Prop} (hI : LaneInvariant I) (ht : step s = .next t)
    (hs : ∀ l, I s.pacing .settled (s.lane l)) (l : Lane.Index) : I t.pacing .settled (t.lane l) := by
  obtain ⟨u, ⟨cs, rfl⟩, hwork⟩ := step_work ht
  exact hI.of_work hwork hs l

end Sys2Proof.Machine

/-! The lane's shared operations as one record each, and the invariants of lanes that hold amid every change. -/

namespace Sys2Proof.Machine

open Sys2Proof.Safety

variable {s t : State}

/-! ## Each operation as what it writes -/

/-- The re-derivation writes the grant's state and the gate (R107). -/
theorem Lane.derive_eq (x : Lane) (lift : LiftState) :
    x.derive lift = { x with
      grant := if x.mode.serving then x.grant.map (fun g => g.derive (x.derivedOpen lift)) else x.grant,
      gate := x.gateAfter (x.governing lift) } := by
  unfold Lane.derive Lane.deriveGrant
  split <;> rfl

/-- After a move of the recognizer only the loiter timer and mark have changed (R81). -/
theorem Lane.loiterAfter_eq (x : Lane) (r : Recognizer) (p : Option Direction) :
    ∃ timer mark, x.loiterAfter r p = { x with loiterTimer := timer, loiterMark := mark } := by
  unfold Lane.loiterAfter
  split
  · exact ⟨_, _, rfl⟩
  · split
    · exact ⟨_, _, rfl⟩
    · split
      · exact ⟨_, _, rfl⟩
      · exact ⟨_, _, rfl⟩

/-- An emptied slot, and on a FREE lane the stopped timer (R94, R108). -/
theorem Lane.vacate_eq (x : Lane) :
    x.vacate = { x with
      grant := none, timer := match x.settings.pace with | .paced => x.timer | .free => none } := by
  unfold Lane.vacate
  cases h : x.settings.pace <;> rfl

theorem Lane.place_eq (x : Lane) (g : Grant) :
    x.place g = { x with
      grant := some g,
      effective := (match x.settings.pace with | .paced => x.effective | .free => x.settings.pending),
      timer := (match x.settings.pace with
        | .paced => x.timer
        | .free => some (LaneTimer.start x.settings.pending)) } := by
  unfold Lane.place
  cases h : x.settings.pace <;> rfl

/-- A change of fault mode writes the setting and the re-arm timing (R120). -/
theorem Lane.refault_eq (x : Lane) (f : FaultMode) :
    ∃ rearm, x.refault f = { x with settings := { x.settings with fault := f }, rearm := rearm } := by
  cases f with
  | latched => exact ⟨_, rfl⟩
  | autoClear =>
    simp only [Lane.refault]
    split
    · exact ⟨_, rfl⟩
    · exact ⟨_, rfl⟩

/-- An accepted beam change writes the beam, the recognizer and the loiter timer and mark (R77, R78, R81). -/
theorem Lane.beamAccepted_eq (x : Lane) (beam : Beam) :
    ∃ timer mark, x.beamAccepted beam = { x.setBeam beam (x.beam beam).accept with
      recognizer := (x.recognizer.move beam).1, loiterTimer := timer, loiterMark := mark } := by
  obtain ⟨timer, mark, h⟩ := Lane.loiterAfter_eq (x.setBeam beam (x.beam beam).accept)
    (x.recognizer.move beam).1 (x.recognizer.move beam).2
  exact ⟨timer, mark, by rw [Lane.beamAccepted, h]⟩

theorem Lane.setBeam_eq (x : Lane) (beam : Beam) (d : Debounce) :
    x.setBeam beam d = { x with
      beamA := (match beam with | .a => d | .b => x.beamA), beamB := (match beam with | .a => x.beamB | .b => d) } := by
  cases beam <;> rfl

/-! ## Every counter within its range (R126 to R128) -/

theorem countsBounded_reset : CountsBounded Counts.reset := by decide

theorem countsBounded_invariant : LaneInvariant (fun _ _ x => CountsBounded x.counts) where
  move {p σ x σ' y} hm h := by
    cases hm with
    | counts _ _ f hf => exact hf _ h
    | derive => rw [Lane.derive_eq]; exact h
    | beamChange _ _ beam _ => cases beam <;> exact h
    | beamAccepted _ _ beam _ =>
      obtain ⟨_, _, heq⟩ := Lane.beamAccepted_eq x beam
      rw [heq, Lane.setBeam_eq]
      exact h
    | refault _ _ m =>
      obtain ⟨_, heq⟩ := Lane.refault_eq x m
      rw [heq]
      exact h
    | _ => exact h
  place _ h := by rw [Lane.place_eq]; exact h
  release _ h := by rw [Lane.vacate_eq]; exact h
  elapse _ h := h
  pacing _ _ h := h
  stopLift _ h := h
  clearDaily h := by
    simp only [CountsBounded] at h
    simp [CountsBounded, Counts.clearDaily, Counts.reset, h]
  coldStart _ := countsBounded_reset
  warmStart {p σ x} h := by
    have hlapsed : CountsBounded { x.counts with lapsed := satInc x.counts.lapsed } := by
      simp only [CountsBounded] at h ⊢
      simp [h, satInc_le]
    have hcounts : x.warmStart.counts =
        if x.grant.isSome then { x.counts with lapsed := satInc x.counts.lapsed } else x.counts := rfl
    rw [hcounts]
    split
    · exact hlapsed
    · exact h

/-! ## The recognizer and the beams (R77, R78, R82) -/

/-- A lane's debounces run exactly while raw and accepted levels differ, and its recognizer agrees with the accepted
ones. -/
def Lane.BeamsSound (x : Lane) : Prop :=
  DebounceSound x.beamA ∧ DebounceSound x.beamB ∧ x.recognizer.levels = (x.beamA.accepted, x.beamB.accepted)

theorem debounceSound_change (d : Debounce) (level : Bool) : DebounceSound (d.change level) := by
  by_cases h : level = d.accepted <;> simp [DebounceSound, Debounce.change, h]

theorem debounceSound_snap (d : Debounce) : DebounceSound d.snap := by simp [DebounceSound, Debounce.snap]

/-- A debounce in progress is one toward the other level. -/
theorem Debounce.raw_of_running {d : Debounce} (h : DebounceSound d) (hr : d.running.isSome = true) :
    d.raw = !d.accepted := by
  rw [h] at hr
  cases hraw : d.raw <;> cases hacc : d.accepted <;> simp_all

/-- The recognizer's move follows the beam whose level has changed (R78). -/
theorem Recognizer.levels_move (r : Recognizer) (beam : Beam) :
    (r.move beam).1.levels =
      match beam with
      | .a => (!r.levels.1, r.levels.2)
      | .b => (r.levels.1, !r.levels.2) := by
  cases r <;> cases beam <;> rfl

theorem Recognizer.levels_placed (a b : Bool) : (Recognizer.placed a b).levels = (a, b) := by
  cases a <;> cases b <;> rfl

theorem Lane.beamsSound_placed (x : Lane) : x.placeBeams.BeamsSound :=
  ⟨debounceSound_snap _, debounceSound_snap _, Recognizer.levels_placed _ _⟩

theorem debounceSound_elapse {d : Debounce} (h : DebounceSound d) (ms : Nat) :
    DebounceSound { d with running := d.running.map (· + ms) } := by
  simpa [DebounceSound] using h

theorem Lane.BeamsSound.accepted {x : Lane} (h : x.BeamsSound) {beam : Beam}
    (hr : (x.beam beam).running.isSome = true) : (x.beamAccepted beam).BeamsSound := by
  obtain ⟨hA, hB, hlevels⟩ := h
  obtain ⟨timer, mark, heq⟩ := Lane.beamAccepted_eq x beam
  rw [heq]
  cases beam with
  | a =>
    refine ⟨debounceSound_snap _, hB, ?_⟩
    simp [Recognizer.levels_move, hlevels, Lane.setBeam, Lane.beam, Debounce.accept, Debounce.raw_of_running hA hr]
  | b =>
    refine ⟨hA, debounceSound_snap _, ?_⟩
    simp [Recognizer.levels_move, hlevels, Lane.setBeam, Lane.beam, Debounce.accept, Debounce.raw_of_running hB hr]

theorem Lane.BeamsSound.change {x : Lane} (h : x.BeamsSound) (beam : Beam) (level : Bool) :
    (x.setBeam beam ((x.beam beam).change level)).BeamsSound := by
  obtain ⟨hA, hB, hlevels⟩ := h
  cases beam with
  | a => exact ⟨debounceSound_change _ _, hB, hlevels⟩
  | b => exact ⟨hA, debounceSound_change _ _, hlevels⟩

theorem beamsSound_invariant : LaneInvariant (fun _ _ x => x.BeamsSound) where
  move {p σ x σ' y} hm h := by
    cases hm with
    | derive => rw [Lane.derive_eq]; exact h
    | beamChange _ _ beam level => exact h.change beam level
    | beamAccepted _ _ beam hr => exact h.accepted hr
    | resetGate => exact x.beamsSound_placed
    | refault _ _ m =>
      obtain ⟨_, heq⟩ := Lane.refault_eq x m
      rw [heq]
      exact h
    | _ => exact h
  place _ h := by rw [Lane.place_eq]; exact h
  release _ h := by rw [Lane.vacate_eq]; exact h
  elapse ms h := ⟨debounceSound_elapse h.1 ms, debounceSound_elapse h.2.1 ms, h.2.2⟩
  pacing _ _ h := h
  stopLift _ h := h
  clearDaily h := h
  coldStart _ := Lane.beamsSound_placed _
  warmStart _ := Lane.beamsSound_placed _

/-! ## The loiter timer and mark (R81) -/

/-- The loiter timer and mark stand only away from CLEAR, and not on a DISABLED lane. -/
def Lane.LoiterSound (x : Lane) : Prop :=
  x.loiterTimer.isSome = true ∨ x.loiterMark = true → x.recognizer ≠ .clear ∧ x.mode ≠ .disabled

theorem Lane.startLoiter_mode {x : Lane} (h : x.startLoiter.isSome = true) : x.mode ≠ .disabled := by
  unfold Lane.startLoiter at h
  split at h
  · cases h
  · assumption

theorem Lane.loiterSound_placed (x : Lane) : x.placeBeams.LoiterSound := by
  intro h
  simp only [Lane.placeBeams] at h ⊢
  split at h
  · simp at h
  · next hr => exact ⟨hr, Lane.startLoiter_mode (by simpa using h)⟩

theorem Lane.LoiterSound.accepted {x : Lane} (h : x.LoiterSound) (beam : Beam) : (x.beamAccepted beam).LoiterSound := by
  have hfields : (x.setBeam beam (x.beam beam).accept).loiterTimer = x.loiterTimer ∧
      (x.setBeam beam (x.beam beam).accept).loiterMark = x.loiterMark ∧
      (x.setBeam beam (x.beam beam).accept).recognizer = x.recognizer ∧
      (x.setBeam beam (x.beam beam).accept).mode = x.mode := by cases beam <;> exact ⟨rfl, rfl, rfl, rfl⟩
  obtain ⟨htimer, hmark, hrec, hmode⟩ := hfields
  intro hset
  simp only [Lane.beamAccepted, Lane.loiterAfter] at hset ⊢
  split at hset
  · simp at hset
  · next hnext =>
    refine ⟨hnext, ?_⟩
    simp only [if_neg hnext]
    split at hset
    · next hpass =>
      rw [if_pos hpass]
      exact Lane.startLoiter_mode (x := x.setBeam beam (x.beam beam).accept) (by simpa using hset)
    · next hpass =>
      rw [if_neg hpass]
      split at hset
      · next hclear =>
        rw [if_pos hclear]
        rcases hset with hset | hset
        · exact Lane.startLoiter_mode (x := x.setBeam beam (x.beam beam).accept) hset
        · exact absurd (hrec ▸ hclear) (h (.inr (hmark ▸ hset))).1
      · next hclear =>
        rw [if_neg hclear, hmode]
        exact (h (by rwa [htimer, hmark] at hset)).2

theorem loiterSound_invariant : LaneInvariant (fun _ _ x => x.LoiterSound) where
  move {p σ x σ' y} hm h := by
    cases hm with
    | derive => rw [Lane.derive_eq]; exact h
    | beamChange _ _ beam level => cases beam <;> exact h
    | beamAccepted _ _ beam hr => exact h.accepted beam
    | loiter _ _ ht => exact fun _ => h (.inl ht)
    | endHold =>
      intro hset
      obtain ⟨hrec, hmode⟩ := h hset
      exact ⟨hrec, by cases hx : x.mode <;> simp_all [LaneMode.endHold]⟩
    | setMode _ _ m hx hmm => exact fun hset => ⟨(h hset).1, hmm⟩
    | setHeld => exact fun hset => ⟨(h hset).1, by simp [Lane.setMode]⟩
    | resetGate =>
      intro hset
      obtain ⟨hrec, hmode⟩ := x.loiterSound_placed hset
      exact ⟨hrec, by cases hx : x.mode <;> simp_all [Lane.resetGate, Lane.placeBeams]⟩
    | dayClose =>
      intro hset
      obtain ⟨hrec, hmode⟩ := h hset
      exact ⟨hrec, by cases hx : x.mode <;> simp_all [Lane.dayClose]⟩
    | disable => exact fun hset => by simp [Lane.disable] at hset
    | enable _ _ hmode =>
      intro hset
      refine ⟨fun hrec => ?_, by simp [Lane.enable]⟩
      have hrec : x.recognizer = .clear := hrec
      simp only [Lane.enable, if_pos hrec] at hset
      exact (h hset).1 hrec
    | refault _ _ m =>
      obtain ⟨_, heq⟩ := Lane.refault_eq x m
      rw [heq]
      exact h
    | _ => exact h
  place _ h := by rw [Lane.place_eq]; exact h
  release _ h := by rw [Lane.vacate_eq]; exact h
  elapse _ h := fun hset => h (by simpa [Lane.elapse] using hset)
  pacing _ _ h := h
  stopLift _ h := h
  clearDaily h := h
  coldStart _ := Lane.loiterSound_placed _
  warmStart _ := Lane.loiterSound_placed _

/-- Settles O57: both are kept lane by lane, move by move. -/
theorem stepsKeepTheRecognizer : Obligations.StepsKeepTheRecognizer := fun _ _ ht =>
  ⟨beamsSound_invariant.of_step ht, loiterSound_invariant.of_step ht⟩

end Sys2Proof.Machine

/-! Counters and clock stay within their ranges (R126 to R128, R133). -/

namespace Sys2Proof.Machine

open Sys2Proof.Safety

variable {s t : State}

theorem bumpEntry_le {n : Nat} {v : Vector Nat n} (h : ∀ x ∈ v.toList, x ≤ 65535) (i : Nat) :
    ∀ x ∈ (bumpEntry v i).toList, x ≤ 65535 := by
  unfold bumpEntry
  split
  · next hi =>
    intro x hx
    rw [Vector.toList_set] at hx
    rcases List.mem_or_eq_of_mem_set hx with hx | rfl
    · exact h x hx
    · exact satInc_le _
  · exact h

theorem replicate_zero_le (n : Nat) : ∀ x ∈ (Vector.replicate n 0).toList, x ≤ 65535 := by
  simp

/-- The bank's counters and the clock within their ranges. -/
structure RangesSound (s : State) : Prop where
  denials : ∀ x ∈ s.denials.toList, x ≤ 65535
  riders : ∀ x ∈ s.riders.toList, x ≤ 65535
  clock : ClockSound s.clock

theorem RangesSound.of_frame {u : State} (h : RangesSound t) (hd : u.denials = t.denials) (hr : u.riders = t.riders)
    (htime : u.clock.timeOfDay = t.clock.timeOfDay) (hday : u.clock.dayState = t.clock.dayState) : RangesSound u where
  denials := hd ▸ h.denials
  riders := hr ▸ h.riders
  clock := by
    obtain ⟨ht, hs⟩ := h.clock
    exact ⟨htime ▸ ht, hday ▸ hs⟩

/-- A day opened follows the day closed before it (R136). -/
theorem former_lt {x : DayState} {d e : Nat} {former : Option Nat} (h : x.opens d = some former) (he : e ∈ former) :
    e < d := by
  cases x with
  | noDay =>
    cases h
    cases he
  | dayClosed d' =>
    simp only [DayState.opens] at h
    split at h
    · cases h
      cases he
      assumption
    · cases h
  | opening => cases h
  | dayOpen => cases h

theorem dayStateSound_warmStart {x : DayState} (h : dayStateSound x = true) : dayStateSound x.warmStart = true := by
  cases x with
  | opening d time former =>
    cases former with
    | none => rfl
    | some e =>
      simp only [dayStateSound, decide_eq_true_eq, Option.mem_some_iff, forall_eq'] at h
      simp only [DayState.warmStart, dayStateSound, decide_eq_true_eq]
      omega
  | _ => exact h

theorem writeBlock_frame (s : State) (x : LoadTransaction) (bs : List Byte) :
    (s.writeBlock x bs).denials = s.denials ∧ (s.writeBlock x bs).riders = s.riders ∧
      (s.writeBlock x bs).clock = s.clock ∧ (s.writeBlock x bs).passes = s.passes := by
  simp [State.writeBlock]

theorem completeCheck_counters (s : State) (x : LoadTransaction) (sig : Signature) :
    (s.completeCheck x sig).denials = s.denials ∧ (s.completeCheck x sig).riders = s.riders := by
  unfold State.completeCheck
  extract_lets b computed close
  have hclose (y : ShadowState) : (close y).denials = s.denials ∧ (close y).riders = s.riders := by simp [close]
  split
  · exact hclose _
  · split <;> exact hclose _

theorem offerRequest_counters (s : State) (tag : Byte) (payload : List Byte) :
    (s.offerRequest tag payload).denials = s.denials ∧ (s.offerRequest tag payload).riders = s.riders := by
  unfold State.offerRequest
  split
  · exact ⟨rfl, rfl⟩
  · split <;> exact ⟨rfl, rfl⟩

theorem lineFreed_counters (s : State) (source : FrameSource) :
    (s.lineFreed source).denials = s.denials ∧ (s.lineFreed source).riders = s.riders := by
  unfold State.lineFreed
  split <;> exact ⟨rfl, rfl⟩

theorem lock_counters (s : State) (l : Lane.Index) (sub : Subject) :
    (s.lock l sub).denials = s.denials ∧ (s.lock l sub).riders = s.riders ∧ (s.lock l sub).clock = s.clock := by
  unfold State.lock
  split <;> exact ⟨rfl, rfl, rfl⟩

/-- The bank's counters and the clock stay within their ranges, move by move. -/
theorem RangesSound.of_work {P : Phase} (h : Work s P t) (hs : RangesSound s) : RangesSound t := by
  induction h with
  | start => exact hs
  | lane _ _ ih => exact ih.of_frame rfl rfl rfl rfl
  | append body _ ih => exact ih.of_frame (by simp) (by simp) (by simp) (by simp)
  | raise _ _ _ ih => exact ih.of_frame rfl rfl rfl rfl
  | @place φ b a t l tap sub p gates _ _ _ ih =>
    obtain ⟨hd, hr, hc⟩ := lock_counters t l sub
    exact ih.of_frame hd hr (congrArg _ hc) (congrArg _ hc)
  | release _ _ _ _ ih => exact ih.of_frame rfl rfl rfl rfl
  | notePass _ _ _ _ ih => exact ih.of_frame rfl rfl rfl rfl
  | refundPass _ _ _ _ ih => exact ih.of_frame rfl rfl rfl rfl
  | storePass _ _ _ _ _ ih => exact ih.of_frame rfl rfl rfl rfl
  | removePass _ _ _ ih => exact ih.of_frame rfl rfl rfl rfl
  | denied i _ ih => exact ⟨bumpEntry_le ih.denials i, ih.riders, ih.clock⟩
  | ridden i _ ih => exact ⟨ih.denials, bumpEntry_le ih.riders i, ih.clock⟩
  | bus _ _ ih => exact ih.of_frame rfl rfl rfl rfl
  | pacing _ _ _ _ ih => exact ih.of_frame rfl rfl rfl rfl
  | stopLift _ _ ih => exact ih.of_frame rfl rfl rfl rfl
  | loadBegun _ _ _ _ _ _ ih => exact ih.of_frame (by simp) (by simp) (by simp) (by simp)
  | @blockWritten _ _ _ t x entries _ _ _ ih =>
    obtain ⟨hd, hr, hc, -⟩ := writeBlock_frame t x entries
    exact ih.of_frame hd hr (congrArg _ hc) (congrArg _ hc)
  | loadAborted _ _ ih => exact ih.of_frame (by simp) (by simp) (by simp) (by simp)
  | activated _ _ _ _ ih => exact ih.of_frame (by simp) (by simp) (by simp) (by simp)
  | checkBegun _ _ _ _ ih =>
    exact ih.of_frame (by simp [Served.finish]) (by simp [Served.finish]) (by simp [Served.finish])
      (by simp [Served.finish])
  | @checkDone _ _ _ t x sig _ _ _ ih =>
    obtain ⟨hd, hr⟩ := completeCheck_counters t x sig
    obtain ⟨-, -, hc, -⟩ := completeCheck_frame t x sig
    exact ih.of_frame hd hr (congrArg _ hc) (congrArg _ hc)
  | openingBegun _ hd ht ho _ =>
    refine ⟨replicate_zero_le _, replicate_zero_le _, ht, ?_⟩
    have hformer : ∀ e ∈ _, e < _ := fun e he => former_lt ho he
    simp only [Config.seasonDays, Config.daySeconds] at hd ht
    exact decide_eq_true ⟨by omega, ht, hformer⟩
  | @openingDone φ b a t d time former _ hd ih =>
    refine ⟨by simpa [State.completeOpening] using ih.denials, by simpa [State.completeOpening] using ih.riders, ?_⟩
    obtain ⟨htime, hday⟩ := ih.clock
    simp only [hd, dayStateSound, decide_eq_true_eq] at hday
    simpa [State.completeOpening, ClockSound, dayStateSound, htime] using hday.1
  | @dayClosed φ b a t d _ hd _ ih =>
    obtain ⟨htime, hday⟩ := ih.clock
    exact ⟨ih.denials, ih.riders, htime, by simpa [hd, dayStateSound] using hday⟩
  | timeSet _ ht ih => exact ⟨ih.denials, ih.riders, ht, ih.clock.2⟩
  | tick _ ih => exact ⟨ih.denials, ih.riders, Nat.mod_lt _ (by decide), ih.clock.2⟩
  | reports _ _ _ _ ih => exact ih.of_frame rfl rfl rfl rfl
  | quieten _ ih => exact ih.of_frame rfl rfl rfl rfl
  | resetting _ ih => exact ih.of_frame rfl rfl rfl rfl
  | receiver _ _ ih => exact ih.of_frame rfl rfl rfl rfl
  | offer tag payload _ ih =>
    obtain ⟨hd, hr⟩ := offerRequest_counters _ tag payload
    obtain ⟨-, -, hc, -⟩ := offerRequest_frame _ tag payload
    exact ih.of_frame hd hr (congrArg _ hc) (congrArg _ hc)
  | ask _ _ ih => exact ih
  | answer _ _ _ ih => exact ih.of_frame rfl rfl rfl rfl
  | @freed φ b a t f _ _ ih =>
    obtain ⟨hd, hr⟩ := lineFreed_counters t f.source
    obtain ⟨-, -, hc, -⟩ := lineFreed_frame t f.source
    exact ih.of_frame hd hr (congrArg _ hc) (congrArg _ hc)
  | transmit _ ih => exact ih.of_frame (by simp) (by simp) (by simp) (by simp)
  | advance ms _ ih => exact ih.of_frame rfl rfl rfl rfl
  | coldStart _ _ => exact ⟨replicate_zero_le _, replicate_zero_le _, (by decide : ClockSound DayClock.reset)⟩
  | warmStart _ ih =>
    exact ⟨ih.denials, ih.riders, by simp [State.warmStart], dayStateSound_warmStart ih.clock.2⟩

theorem RangesSound.of_step (h : RangesSound s) (ht : step s = .next t) : RangesSound t := by
  obtain ⟨u, ⟨cs, rfl⟩, hwork⟩ := step_work ht
  exact RangesSound.of_work hwork ⟨h.denials, h.riders, h.clock⟩

/-- Settles O56: the lanes' counters lane by lane, the bank's and the clock move by move. -/
theorem stepsKeepTheRanges : Obligations.StepsKeepTheRanges := by
  rintro s t ⟨⟨hlanes, hdenials, hriders⟩, hclock⟩ ht
  obtain ⟨hdenials', hriders', hclock'⟩ := RangesSound.of_step ⟨hdenials, hriders, hclock⟩ ht
  exact ⟨⟨countsBounded_invariant.of_step ht hlanes, hdenials', hriders'⟩, hclock'⟩

end Sys2Proof.Machine

/-! What the modes, the grants and the re-arm timing of a lane promise, amid commands as between them. -/

namespace Sys2Proof.Machine

open Sys2Proof.Safety

variable {s t : State}

/-! ## Re-arm timing (R118) -/

/-- Re-arm timing belongs to a set OBSTRUCTION in AUTO_CLEAR whose input is inactive. -/
def Lane.RearmSound (x : Lane) : Prop :=
  x.rearm ≠ .idle → x.faults.obstruction = true ∧ x.settings.fault = .autoClear ∧ x.obstruction.accepted = false

theorem Lane.rearmSound_of_idle {x : Lane} (h : x.rearm = .idle) : x.RearmSound := fun hr => absurd h hr

theorem Lane.RearmSound.refault {x : Lane} (h : x.RearmSound) (m : FaultMode) : (x.refault m).RearmSound := by
  cases m with
  | latched => exact Lane.rearmSound_of_idle rfl
  | autoClear =>
    simp only [Lane.refault]
    split
    · next hset =>
      simp only [Bool.and_eq_true, Bool.not_eq_true'] at hset
      exact fun _ => ⟨hset.1, rfl, hset.2⟩
    · exact fun hr => ⟨(h hr).1, rfl, (h hr).2.2⟩

theorem rearmSound_invariant : LaneInvariant (fun _ _ x => x.RearmSound) where
  move {p σ x σ' y} hm h := by
    cases hm with
    | derive => rw [Lane.derive_eq]; exact h
    | beamChange _ _ beam _ => cases beam <;> exact h
    | beamAccepted _ _ beam _ =>
      obtain ⟨_, _, heq⟩ := Lane.beamAccepted_eq x beam
      rw [heq, Lane.setBeam_eq]
      exact h
    | setFault _ _ _ k =>
      cases k with
      | obstruction => exact Lane.rearmSound_of_idle rfl
      | stuck => exact h
    | clearFaults _ _ _ k =>
      cases hk : k.obstruction with
      | true => exact Lane.rearmSound_of_idle (by simp [Lane.clearFaults, hk])
      | false => simpa [Lane.RearmSound, Lane.clearFaults, FaultSet.remove, hk] using h
    | obstructionAccepted _ _ hraw =>
      intro hr
      obtain ⟨hfault, hmode, -⟩ := h hr
      refine ⟨hfault, hmode, ?_⟩
      cases hx : x.obstruction.raw with
      | true => exact absurd hfault (by simp [hraw hx])
      | false => exact hx
    | obstructionBack => exact Lane.rearmSound_of_idle rfl
    | startRearm _ _ hfault hmode hinput => exact fun _ => ⟨hfault, hmode, hinput⟩
    | rearmed _ _ hr => exact fun _ => h hr
    | resetGate => exact Lane.rearmSound_of_idle rfl
    | refault _ _ m => exact h.refault m
    | _ => exact h
  place _ h := by rw [Lane.place_eq]; exact h
  release _ h := by rw [Lane.vacate_eq]; exact h
  elapse ms h := by
    intro hr
    refine h fun hidle => hr ?_
    simp [Lane.elapse, hidle]
  pacing _ _ h := h
  stopLift _ h := h
  clearDaily h := h
  coldStart _ := Lane.rearmSound_of_idle rfl
  warmStart _ := Lane.rearmSound_of_idle rfl

/-! ## What a grant promises (R84, R85) -/

/-- A grant's passages are within its allowance, DRAINING exactly at it, committed once it has some. -/
def Grant.Sound (g : Grant) : Prop :=
  1 ≤ g.allowance ∧ g.passages ≤ g.allowance ∧ (g.state = .draining ↔ g.passages = g.allowance) ∧
    (1 ≤ g.passages → g.committed = true)

theorem Grant.Fresh.sound {g : Grant} (h : g.Fresh) : g.Sound := by
  obtain ⟨hstate, hpassages, hallowance⟩ := h
  refine ⟨hallowance, by omega, ?_, fun h => by omega⟩
  rw [hstate, hpassages]
  exact ⟨(fun h => by cases h), fun h => by omega⟩

theorem Grant.live_iff {g : Grant} : g.live = true ↔ g.state ≠ .draining := by simp [Grant.live]

theorem Grant.derive_live {g : Grant} (b : Bool) : (g.derive b).live = g.live := by
  unfold Grant.derive
  cases b <;> cases hg : g.live <;> simp_all [Grant.live]

theorem Grant.derive_draining {g : Grant} (b : Bool) : (g.derive b).state = .draining ↔ g.state = .draining := by
  have h := Grant.derive_live (g := g) b
  simp only [Grant.live] at h
  by_cases h1 : (g.derive b).state = .draining <;> by_cases h2 : g.state = .draining <;> simp_all

theorem Grant.derive_passages (g : Grant) (b : Bool) :
    (g.derive b).passages = g.passages ∧ (g.derive b).allowance = g.allowance ∧
      (g.derive b).committed = g.committed ∧ (g.derive b).serial = g.serial := by
  unfold Grant.derive
  split <;> exact ⟨rfl, rfl, rfl, rfl⟩

theorem Grant.Sound.derive {g : Grant} (h : g.Sound) (b : Bool) : (g.derive b).Sound := by
  obtain ⟨hp, ha, hc, -⟩ := Grant.derive_passages g b
  rw [Grant.Sound, hp, ha, hc, Grant.derive_draining]
  exact h

theorem Grant.Sound.forward {g : Grant} (h : g.Sound) (hlive : g.live = true) : g.forward.Sound := by
  obtain ⟨hallowance, hle, hdraining, -⟩ := h
  have hne : g.passages ≠ g.allowance := fun he => (Grant.live_iff.1 hlive) (hdraining.2 he)
  exact ⟨hallowance, show g.passages + 1 ≤ g.allowance by omega, Grant.forward_state hlive, fun _ => rfl⟩

theorem Grant.back_state (g : Grant) : g.back.state ≠ .draining := by
  simp only [Grant.back]
  split
  · simp
  · assumption

theorem Grant.Sound.back {g : Grant} (h : g.Sound) (hpos : g.passages ≠ 0) : g.back.Sound := by
  obtain ⟨hallowance, hle, -, hcommitted⟩ := h
  refine ⟨hallowance, show g.passages - 1 ≤ g.allowance by omega, ⟨fun hd => absurd hd g.back_state, fun he => ?_⟩,
    fun _ => hcommitted (by omega)⟩
  have he : g.passages - 1 = g.allowance := he
  omega

/-- The grant of a lane, if it has one, is sound. -/
def Lane.GrantSound (x : Lane) : Prop := ∀ g ∈ x.grant, g.Sound

theorem Lane.GrantSound.derive {x : Lane} (h : x.GrantSound) (lift : LiftState) : (x.derive lift).GrantSound := by
  rw [Lane.derive_eq]
  intro g hg
  simp only at hg
  split at hg
  · obtain ⟨g', hg', rfl⟩ := Option.map_eq_some_iff.1 hg
    exact (h g' hg').derive _
  · exact h g hg

theorem Lane.grantSound_of_none {x : Lane} (h : x.grant = none) : x.GrantSound := by
  intro g hg
  rw [h] at hg
  cases hg

theorem Lane.grantSound_of_some {x : Lane} {g : Grant} (h : x.grant = some g) (hg : g.Sound) : x.GrantSound := by
  intro g' hg'
  rw [h] at hg'
  cases hg'
  exact hg

theorem grantSound_invariant : LaneInvariant (fun _ _ x => x.GrantSound) where
  move {p σ x σ' y} hm h := by
    cases hm with
    | derive => exact h.derive _
    | beamChange _ _ beam _ => cases beam <;> exact h
    | beamAccepted _ _ beam _ =>
      obtain ⟨_, _, heq⟩ := Lane.beamAccepted_eq x beam
      rw [heq, Lane.setBeam_eq]
      exact h
    | forward _ _ g hg hlive _ => exact Lane.grantSound_of_some rfl ((h g hg).forward hlive)
    | forwardLast _ _ g hg hlive _ => exact Lane.grantSound_of_some rfl ((h g hg).forward hlive)
    | back _ _ g hg hpos _ => exact Lane.grantSound_of_some rfl ((h g hg).back hpos)
    | backDraining _ _ g hg hpos _ => exact Lane.grantSound_of_some rfl ((h g hg).back hpos)
    | refault _ _ m =>
      obtain ⟨_, heq⟩ := Lane.refault_eq x m
      rw [heq]
      exact h
    | _ => exact h
  place hg _ := Lane.grantSound_of_some (Lane.place_grant _ _) hg.sound
  release _ _ := Lane.grantSound_of_none (Lane.vacate_grant _)
  elapse ms h := by
    intro g hg
    obtain ⟨g', hg', rfl⟩ := Option.map_eq_some_iff.1 hg
    exact h g' hg'
  pacing _ _ h := h
  stopLift _ h := h
  clearDaily h := h
  coldStart _ := Lane.grantSound_of_none rfl
  warmStart _ := Lane.grantSound_of_none rfl

/-! ## What the modes say of the two slots (R53, R100) -/

/-- A grant stands on a serving lane only; amid the end of a grant its slot is empty, and the credential that waits is of
a lane in AUTO; a lane ready for a decision is in AUTO with both slots empty. -/
structure Lane.ModeSound (slot : Slot) (x : Lane) : Prop where
  serving : x.mode.serving = false → x.grant = none
  waiting : x.waiting.isSome = true → x.mode = .auto
  pending : slot = .sound → x.mode = .holdPending → x.grant.isSome = true
  behind : slot = .sound → x.waiting.isSome = true → x.grant.isSome = true
  empty : slot ≠ .sound → x.grant = none
  ended : slot ≠ .sound → slot ≠ .vacated → x.mode ≠ .holdPending
  ready : ∀ n, slot = .ready n → x.mode = .auto ∧ x.waiting = none

/-- Reads of the lane only mode, grant and waiting slot. -/
theorem Lane.ModeSound.of_same {slot : Slot} {x y : Lane} (h : x.ModeSound slot) (hm : y.mode = x.mode)
    (hg : y.grant.isSome = x.grant.isSome) (hw : y.waiting.isSome = x.waiting.isSome) : y.ModeSound slot := by
  have hnone : y.grant = none ↔ x.grant = none := by
    rw [← Option.not_isSome_iff_eq_none, ← Option.not_isSome_iff_eq_none, hg]
  have hwnone : y.waiting = none ↔ x.waiting = none := by
    rw [← Option.not_isSome_iff_eq_none, ← Option.not_isSome_iff_eq_none, hw]
  obtain ⟨h1, h2, h3, h4, h5, h6, h7⟩ := h
  constructor <;> simpa only [hm, hg, hw, hnone, hwnone]

/-- A lane at rest in AUTO with nothing waiting, or without a grant and not in HOLD_PENDING. -/
theorem Lane.modeSound_of_empty {x : Lane} (hm : x.mode ≠ .holdPending) (hg : x.grant = none) (hw : x.waiting = none) :
    x.ModeSound .sound where
  serving _ := hg
  waiting h := by simp [hw] at h
  pending _ h := absurd h hm
  behind _ h := by simp [hw] at h
  empty h := absurd rfl h
  ended h := absurd rfl h
  ready _ h := by cases h

theorem LaneMode.serving_of_ne {m : LaneMode} (hd : m ≠ .disabled) (hh : ∀ c, m ≠ .held c) : m.serving = true := by
  cases m with
  | held c => exact absurd rfl (hh c)
  | disabled => exact absurd rfl hd
  | _ => rfl

theorem Lane.ModeSound.grant_derive {slot : Slot} {x : Lane} (h : x.ModeSound slot) (lift : LiftState) :
    (x.derive lift).ModeSound slot := by
  rw [Lane.derive_eq]
  refine h.of_same rfl ?_ rfl
  simp only
  split <;> simp

theorem modeSound_invariant : LaneInvariant (fun _ σ x => x.ModeSound σ.slot) where
  move {p σ x σ' y} hm h := by
    cases hm with
    | wait _ w _ hmode hgrant _ =>
      exact ⟨h.serving, fun _ => hmode, h.pending, fun _ _ => hgrant, h.empty, h.ended, fun n hn => by cases hn⟩
    | dropWaiting =>
      exact ⟨h.serving, (fun hw => by cases hw), h.pending, (fun _ hw => by cases hw), h.empty, h.ended,
        fun n hn => by cases hn⟩
    | takeUp _ _ w hw =>
      have hauto : x.mode = .auto := h.waiting (by rw [hw]; rfl)
      exact ⟨h.serving, (fun hw => by cases hw), (fun hs => by cases hs), (fun hs => by cases hs),
        fun _ => h.empty (by simp), fun _ _ => by simp [hauto], fun _ _ => ⟨hauto, rfl⟩⟩
    | noneWaiting _ _ hw => exact Lane.modeSound_of_empty (h.ended (by simp) (by simp)) (h.empty (by simp)) hw
    | vacant _ _ hg =>
      exact ⟨h.serving, h.waiting, (fun hs => by cases hs), (fun hs => by cases hs), fun _ => hg,
        fun _ _ hpending => by simpa [hg] using h.pending rfl hpending, fun n hn => by cases hn⟩
    | ready _ _ n hmode hg _ =>
      have hw : x.waiting = none := by
        by_contra hne
        simpa [hg] using h.behind rfl (Option.isSome_iff_ne_none.2 hne)
      exact ⟨h.serving, h.waiting, (fun hs => by cases hs), (fun hs => by cases hs), fun _ => hg,
        fun _ _ => by simp [hmode], fun _ _ => ⟨hmode, hw⟩⟩
    | unready _ _ n =>
      obtain ⟨hmode, hw⟩ := h.ready n rfl
      exact Lane.modeSound_of_empty (by simp [hmode]) (h.empty (by simp)) hw
    | slacken => exact h
    | freeFollows => exact h
    | derive => exact h.grant_derive _
    | beamChange _ _ beam _ => cases beam <;> exact h.of_same rfl rfl rfl
    | beamAccepted _ _ beam _ =>
      obtain ⟨_, _, heq⟩ := Lane.beamAccepted_eq x beam
      rw [heq, Lane.setBeam_eq]
      exact h.of_same rfl rfl rfl
    | forward _ _ g hg => exact h.of_same rfl (by simp [hg]) rfl
    | forwardLast _ _ g hg => exact h.of_same rfl (by simp [hg]) rfl
    | back _ _ g hg => exact h.of_same rfl (by simp [hg]) rfl
    | backDraining _ _ g hg => exact h.of_same rfl (by simp [hg]) rfl
    | endHold _ _ slot hslot =>
      have hnone : x.grant = none := h.empty (by rcases hslot with rfl | rfl <;> simp)
      refine ⟨fun _ => hnone, fun hw => ?_, (fun hs => by cases hs), (fun hs => by cases hs), fun _ => hnone,
        fun _ _ => ?_, fun n hn => by cases hn⟩
      · simp [h.waiting hw, LaneMode.endHold]
      · cases hx : x.mode <;> simp [LaneMode.endHold]
    | setMode _ _ m hx hmm hpending hheld =>
      refine ⟨hheld, fun hw => ?_, fun _ hp => (hpending hp).1, h.behind, h.empty, fun hs => absurd rfl hs,
        fun n hn => by cases hn⟩
      have hgrant : x.grant.isSome = true := h.behind rfl hw
      cases hmode : m with
      | auto => rfl
      | holdPending =>
        have hw' : x.waiting.isSome = true := hw
        simp [(hpending hmode).2] at hw'
      | held c => simp [hheld (by simp [hmode, LaneMode.serving])] at hgrant
      | disabled => exact absurd hmode hmm
    | setHeld _ _ c c' hx =>
      have hnone : x.grant = none := h.serving (by simp [hx, LaneMode.serving])
      refine Lane.modeSound_of_empty (by simp [Lane.setMode]) hnone ?_
      by_contra hne
      simpa [hnone] using h.behind rfl (Option.isSome_iff_ne_none.2 hne)
    | resetGate =>
      refine Lane.modeSound_of_empty ?_ (h.empty (by simp)) rfl
      have hmode : x.mode ≠ .holdPending := h.ended (by simp) (by simp)
      cases hx : x.mode <;> simp_all [Lane.resetGate, Lane.placeBeams]
    | dayClose _ _ slot hslot =>
      refine ⟨fun hs => h.serving ?_, (fun hw => by cases hw), fun _ hp => ?_, (fun _ hw => by cases hw),
        fun hs => absurd rfl hs, fun hs => absurd rfl hs, fun n hn => by cases hn⟩
      · cases hx : x.mode <;> simp_all [Lane.dayClose, LaneMode.serving]
      · have hpending : x.mode = .holdPending := by cases hx : x.mode <;> simp_all [Lane.dayClose]
        rcases hslot with rfl | rfl
        · exact h.pending rfl hpending
        · exact absurd hpending (h.ended (by simp) (by simp))
    | disable _ _ hg =>
      refine Lane.modeSound_of_empty (by simp [Lane.disable]) hg ?_
      by_contra hne
      simpa [hg] using h.behind rfl (Option.isSome_iff_ne_none.2 hne)
    | enable _ _ hmode =>
      refine Lane.modeSound_of_empty (by simp [Lane.enable]) (h.serving (by simp [hmode, LaneMode.serving])) ?_
      by_contra hne
      simpa [hmode] using h.waiting (Option.isSome_iff_ne_none.2 hne)
    | refault _ _ m =>
      obtain ⟨_, heq⟩ := Lane.refault_eq x m
      rw [heq]
      exact h.of_same rfl rfl rfl
    | _ => exact h.of_same rfl rfl rfl
  place {p gates n x g} _ h := by
    obtain ⟨hmode, hw⟩ := h.ready n rfl
    rw [Lane.place_eq]
    exact ⟨fun hs => by simp [hmode, LaneMode.serving] at hs, fun _ => hmode, fun _ _ => rfl, fun _ _ => rfl,
      fun hs => absurd rfl hs, fun hs => absurd rfl hs, fun n hn => by cases hn⟩
  release {p σ x} _ h := by
    rw [Lane.vacate_eq]
    exact ⟨fun _ => rfl, h.waiting, (fun hs => by cases hs), (fun hs => by cases hs), fun _ => rfl,
      fun _ hs => absurd rfl hs, fun n hn => by cases hn⟩
  elapse ms h := h.of_same rfl (by simp [Lane.elapse]) (by simp [Lane.elapse])
  pacing _ _ h := h
  stopLift _ h := h.of_same rfl rfl rfl
  clearDaily h := h.of_same rfl rfl rfl
  coldStart _ := Lane.modeSound_of_empty (by simp [Lane.coldStart, Lane.placeBeams, Lane.reset]) rfl rfl
  warmStart {p σ x} _ := by
    refine Lane.modeSound_of_empty ?_ rfl rfl
    cases hx : x.mode <;> simp [Lane.warmStart, Lane.placeBeams, hx]

/-- Between commands the modes say what ModesSound says. -/
theorem modesSound_iff : ModesSound s ↔ ∀ l, (s.lane l).ModeSound .sound := by
  refine forall_congr' fun l => ⟨fun ⟨hpending, hserving, hwaiting⟩ => ?_, fun h => ?_⟩
  · exact ⟨hserving, fun hw => (hwaiting hw).1, fun _ => hpending, fun _ hw => (hwaiting hw).2,
      fun hs => absurd rfl hs, fun hs => absurd rfl hs, fun n hn => by cases hn⟩
  · exact ⟨h.pending rfl, h.serving, fun hw => ⟨h.waiting hw, h.behind rfl hw⟩⟩

theorem modesSound_of_step (ht : step s = .next t) (h : ModesSound s) : ModesSound t :=
  modesSound_iff.2 (modeSound_invariant.of_step ht (modesSound_iff.1 h))

end Sys2Proof.Machine

/-! Gates, grants, windows and the carrier agree (R84, R100 to R118). -/

namespace Sys2Proof.Machine

open Sys2Proof.Safety

variable {s t : State} {x y : Lane} {lift lift' : LiftState} {active : Bool}

/-! ## The derived command and what reads it -/

/-- The gate of a faultless lane and its grant follow the governing and the derived command (R84, R105, R107). -/
structure Lane.Follows (lift : LiftState) (x : Lane) : Prop where
  gate : x.faults.any = false →
    (x.gate = .opened ↔ x.governing lift = .openArm) ∧ (x.gate = .released ↔ x.governing lift = .freeArm)
  grant : ∀ g ∈ x.grant, (g.state = .opened ↔ x.derivedOpen lift = true)

theorem Lane.derivedOpen_eq (x : Lane) (lift : LiftState) :
    x.derivedOpen lift = ((x.grant.map Grant.live).getD false && x.windowActive && !x.faults.any &&
      (x.settings.pace == .free || lift == .running)) := by
  unfold Lane.derivedOpen
  cases x.grant <;> rfl

/-- What the derived command reads of a lane (R107 to R110). -/
theorem Lane.derivedOpen_congr (hlive : y.grant.map Grant.live = x.grant.map Grant.live) (htimer : y.timer = x.timer)
    (hpace : y.settings.pace = x.settings.pace) (heffective : y.effective = x.effective) (hcarry : y.carry = x.carry)
    (hfaults : y.faults = x.faults) : y.derivedOpen lift = x.derivedOpen lift := by
  have hsome : y.grant.isSome = x.grant.isSome := by simpa using congrArg Option.isSome hlive
  simp only [Lane.derivedOpen_eq, Lane.windowActive, hlive, hsome, htimer, hpace, heffective, hcarry, hfaults]

theorem Lane.governing_congr (hmode : y.mode = x.mode) (hopen : y.derivedOpen lift' = x.derivedOpen lift) :
    y.governing lift' = x.governing lift := by
  simp only [Lane.governing, hmode, hopen]

/-- A change of nothing that the commands and the gate read. -/
theorem Lane.Follows.of_same (h : x.Follows lift) (hgrant : y.grant = x.grant) (htimer : y.timer = x.timer)
    (hpace : y.settings.pace = x.settings.pace) (heffective : y.effective = x.effective) (hcarry : y.carry = x.carry)
    (hfaults : y.faults = x.faults) (hmode : y.mode = x.mode) (hgate : y.gate = x.gate) : y.Follows lift := by
  have hopen : y.derivedOpen lift = x.derivedOpen lift :=
    Lane.derivedOpen_congr (by rw [hgrant]) htimer hpace heffective hcarry hfaults
  obtain ⟨h1, h2⟩ := h
  constructor
  · simpa only [hfaults, hgate, Lane.governing_congr hmode hopen] using h1
  · simpa only [hgrant, hopen] using h2

/-- A grant that keeps its state keeps following. -/
theorem Lane.Follows.of_grant (h : x.Follows lift) {g g' : Grant} (hg : x.grant = some g) (hstate : g'.state = g.state) :
    ({ x with grant := some g' } : Lane).Follows lift := by
  have hopen : ({ x with grant := some g' } : Lane).derivedOpen lift = x.derivedOpen lift :=
    Lane.derivedOpen_congr (by simp [hg, Grant.live, hstate]) rfl rfl rfl rfl rfl
  have hgoverning : ({ x with grant := some g' } : Lane).governing lift = x.governing lift :=
    Lane.governing_congr rfl hopen
  constructor
  · simpa only [hgoverning] using h.gate
  · intro k hk
    cases hk
    rw [hstate, hopen]
    exact h.grant g hg

theorem Lane.governing_arm (x : Lane) (lift : LiftState) (hm : x.mode.serving = true) :
    x.governing lift = if x.derivedOpen lift then .openArm else .closeArm := by
  cases hx : x.mode <;> simp_all [LaneMode.serving, Lane.governing]

/-- Where a command moves the gate of a faultless lane (R105). -/
theorem Lane.gateAfter_iff (hf : x.faults.any = false) (c : GateCommand) :
    (x.gateAfter c = .opened ↔ c = .openArm) ∧ (x.gateAfter c = .released ↔ c = .freeArm) := by
  unfold Lane.gateAfter
  rw [if_neg (by simp [hf])]
  cases c with
  | openArm => simp
  | freeArm => simp
  | closeArm => cases hg : x.gate <;> cases ha : x.armClosed <;> simp [Lane.closingGate, ha]

theorem Lane.derive_derivedOpen (x : Lane) (lift lift' : LiftState) :
    (x.derive lift).derivedOpen lift' = x.derivedOpen lift' := by
  rw [Lane.derive_eq]
  refine Lane.derivedOpen_congr ?_ rfl rfl rfl rfl rfl
  simp only
  split
  · rw [Option.map_map]
    exact congrFun (congrArg _ (funext fun g => Grant.derive_live _)) _
  · rfl

/-- Only a grant that is not DRAINING opens a lane. -/
theorem Lane.live_of_derivedOpen {g : Grant} (hg : x.grant = some g) (h : x.derivedOpen lift = true) :
    g.live = true := by
  simp only [Lane.derivedOpen, hg, Bool.and_eq_true] at h
  obtain ⟨⟨⟨hlive, -⟩, -⟩, -⟩ := h
  exact hlive

theorem Grant.derive_opened {g : Grant} {b : Bool} (h : b = true → g.live = true) :
    (g.derive b).state = .opened ↔ b = true := by
  unfold Grant.derive
  cases hlive : g.live with
  | true => cases b <;> simp
  | false =>
    cases b with
    | true => simp [hlive] at h
    | false => simpa [Grant.live] using fun he : g.state = .opened => by simp [Grant.live, he] at hlive

/-- After the re-derivation gate and grant follow (R107). -/
theorem Lane.follows_derive (x : Lane) (lift : LiftState) (hs : x.mode.serving = false → x.grant = none) :
    (x.derive lift).Follows lift := by
  have hopen := Lane.derive_derivedOpen x lift lift
  have hgoverning : (x.derive lift).governing lift = x.governing lift :=
    Lane.governing_congr (by rw [Lane.derive_eq]) hopen
  constructor
  · intro hf
    rw [hgoverning, Lane.derive_eq]
    exact Lane.gateAfter_iff (by rwa [Lane.derive_eq] at hf) _
  · intro g hg
    rw [hopen]
    rw [Lane.derive_eq] at hg
    cases hm : x.mode.serving with
    | false => simp [hm, hs hm] at hg
    | true =>
      simp only [hm, if_true] at hg
      obtain ⟨g', hg', rfl⟩ := Option.map_eq_some_iff.1 hg
      exact Grant.derive_opened fun h => Lane.live_of_derivedOpen hg' h

/-! ## What holds of a lane's gate amid commands -/

/-- Whether a lane in a slack has gate and grant follow. -/
def Gates.Following (gates : Gates) (x : Lane) : Prop :=
  match gates with
  | .follow => True
  | .followIfFree => x.settings.pace = .free
  | .astray => False

/-- The gate's side of a lane under the bank's pacing: modes, faults, lane timer, and the gate and grant where they
follow. -/
structure Lane.GateSound (p : Pacing) (σ : Slack) (x : Lane) : Prop where
  pacing : PacingSound p
  mode : x.ModeSound σ.slot
  faults : x.faults.any = true → x.gate = .released
  timer : x.timer.isSome = true → (x.settings.pace = .free → x.grant.isSome = true) ∧
    (x.settings.pace = .paced → p.lift = .running) ∧ x.mode ≠ .disabled
  follows : σ.gates.Following x → x.Follows p.lift

variable {p q : Pacing} {σ σ' : Slack}

/-- A lane whose gate and grant need not follow. -/
theorem Lane.GateSound.astray {slot : Slot} (h : x.GateSound p σ) (hmode : y.ModeSound slot)
    (hfaults : y.faults.any = true → y.gate = .released)
    (htimer : y.timer.isSome = true → (y.settings.pace = .free → y.grant.isSome = true) ∧
      (y.settings.pace = .paced → p.lift = .running) ∧ y.mode ≠ .disabled) : y.GateSound p ⟨.astray, slot⟩ :=
  ⟨h.pacing, hmode, hfaults, htimer, fun hf => hf.elim⟩

/-- A change of nothing that the gate's side reads. -/
theorem Lane.GateSound.of_same {slot : Slot} (h : x.GateSound p σ) (hmodes : y.ModeSound slot)
    (hgrant : y.grant = x.grant) (htimer : y.timer = x.timer)
    (hpace : y.settings.pace = x.settings.pace) (heffective : y.effective = x.effective) (hcarry : y.carry = x.carry)
    (hfaults : y.faults = x.faults) (hmode : y.mode = x.mode) (hgate : y.gate = x.gate) :
    y.GateSound p ⟨σ.gates, slot⟩ where
  pacing := h.pacing
  mode := hmodes
  faults := by simpa only [hfaults, hgate] using h.faults
  timer := by simpa only [htimer, hpace, hgrant, hmode] using h.timer
  follows hf := by
    refine (h.follows ?_).of_same hgrant htimer hpace heffective hcarry hfaults hmode hgate
    unfold Gates.Following at hf ⊢
    cases hg : σ.gates <;> simp_all

/-- A move that a lane makes at rest or not, when the gate's side reads nothing of it. -/
theorem Lane.GateSound.same {σ : Slack} (h : x.GateSound p σ) (hmodes : y.ModeSound σ.slot)
    (hgrant : y.grant = x.grant) (htimer : y.timer = x.timer)
    (hpace : y.settings.pace = x.settings.pace) (heffective : y.effective = x.effective) (hcarry : y.carry = x.carry)
    (hfaults : y.faults = x.faults) (hmode : y.mode = x.mode) (hgate : y.gate = x.gate) : y.GateSound p σ :=
  h.of_same hmodes hgrant htimer hpace heffective hcarry hfaults hmode hgate

/-- A re-derived lane follows. -/
theorem Lane.GateSound.derive {gates : Gates} {slot : Slot} (h : x.GateSound p ⟨gates, slot⟩) :
    (x.derive p.lift).GateSound p ⟨.follow, slot⟩ where
  pacing := h.pacing
  mode := h.mode.grant_derive _
  faults hf := by
    rw [Lane.derive_eq] at hf ⊢
    simp only [Lane.gateAfter, hf, if_true]
    exact h.faults hf
  timer ht := by
    have hsome : (x.derive p.lift).grant.isSome = x.grant.isSome :=
      Safety.grant_isSome_of_account (Lane.derive_account x p.lift)
    rw [hsome]
    rw [Lane.derive_eq] at ht ⊢
    exact h.timer ht
  follows _ := Lane.follows_derive x p.lift h.mode.serving

/-- Another grant of the same state in the slot. -/
theorem Lane.GateSound.of_grant {g g' : Grant} (h : x.GateSound p σ)
    (hmodes : ({ x with grant := some g' } : Lane).ModeSound σ.slot) (hg : x.grant = some g)
    (hstate : g'.state = g.state) : ({ x with grant := some g' } : Lane).GateSound p σ where
  pacing := h.pacing
  mode := hmodes
  faults := h.faults
  timer ht := ⟨fun _ => rfl, (h.timer ht).2⟩
  follows hf := (h.follows hf).of_grant hg hstate

theorem Lane.GateSound.armInput (h : x.GateSound p σ) (hmodes : (x.armInput active).ModeSound σ.slot) :
    (x.armInput active).GateSound p σ where
  pacing := h.pacing
  mode := hmodes
  faults hf := by simp [Lane.armInput, h.faults hf]
  timer := h.timer
  follows hf := by
    have hx : x.Follows p.lift := h.follows hf
    have hopen : (x.armInput active).derivedOpen p.lift = x.derivedOpen p.lift :=
      Lane.derivedOpen_congr rfl rfl rfl rfl rfl rfl
    have hgoverning : (x.armInput active).governing p.lift = x.governing p.lift := Lane.governing_congr rfl hopen
    have hgate : ((x.armInput active).gate = .opened ↔ x.gate = .opened) ∧
        ((x.armInput active).gate = .released ↔ x.gate = .released) := by
      cases hg : x.gate <;> cases active <;> simp [Lane.armInput, hg]
    constructor
    · rw [hgoverning, hgate.1, hgate.2]
      exact hx.gate
    · rw [hopen]
      exact hx.grant

theorem FaultSet.any_of_remove {f k : FaultSet} (h : (f.remove k).any = true) : f.any = true := by
  simp only [FaultSet.any, FaultSet.remove, Bool.or_eq_true, Bool.and_eq_true] at h ⊢
  rcases h with h | h
  · exact .inl h.1
  · exact .inr h.1

theorem LaneMode.endHold_ne_disabled {m : LaneMode} (h : m ≠ .disabled) : m.endHold ≠ .disabled := by
  cases m <;> simp_all [LaneMode.endHold]

/-- While the lift is STOPPED no paced lane has a timer, so its coming on opens none (R113, R114). -/
theorem Lane.GateSound.setPacing (h : x.GateSound p σ) (hq : PacingSound p → PacingSound q)
    (hlift : q.lift = p.lift ∨ q.lift = .running) : x.GateSound q σ := by
  have hrunning : p.lift = .running → q.lift = .running := fun hp => hlift.elim (fun h => h.trans hp) id
  have htimer : x.timer.isSome = true → (x.settings.pace = .free → x.grant.isSome = true) ∧
      (x.settings.pace = .paced → q.lift = .running) ∧ x.mode ≠ .disabled := fun ht =>
    ⟨(h.timer ht).1, fun hp => hrunning ((h.timer ht).2.1 hp), (h.timer ht).2.2⟩
  have hopen : x.derivedOpen q.lift = x.derivedOpen p.lift := by
    rcases hlift with hlift | hlift
    · rw [hlift]
    · cases hp : p.lift with
      | running => rw [hlift]
      | stopped =>
        cases hpace : x.settings.pace with
        | free => simp [Lane.derivedOpen, hpace]
        | paced =>
          have hnone : x.timer = none := by
            by_contra hne
            simpa [hp] using (h.timer (Option.isSome_iff_ne_none.2 hne)).2.1 hpace
          simp [Lane.derivedOpen, Lane.windowActive, hnone]
  refine ⟨hq h.pacing, h.mode, h.faults, htimer, fun hf => ?_⟩
  obtain ⟨h1, h2⟩ := h.follows hf
  constructor
  · rwa [Lane.governing_congr rfl hopen]
  · rwa [hopen]

/-- The lift's stop stops the timers of the paced lanes and changes nothing for FREE ones (R113). -/
theorem Lane.GateSound.stopLift (h : x.GateSound p .settled) (hloss : p.syncLoss.isSome = true) :
    x.liftStop.GateSound p.stop ⟨.followIfFree, .sound⟩ where
  pacing := by
    obtain ⟨hgenerator, -, hsyncLoss⟩ := h.pacing
    obtain ⟨hsource, -⟩ := hsyncLoss.1 hloss
    simp [PacingSound, Pacing.stop, hsource] at hgenerator ⊢
    exact hgenerator
  mode := h.mode.of_same rfl rfl rfl
  faults := h.faults
  timer ht := by
    cases hpace : x.settings.pace with
    | paced => simp [Lane.liftStop, hpace] at ht
    | free =>
      obtain ⟨hgrant, -, hmode⟩ := h.timer (by simpa [Lane.liftStop, hpace] using ht)
      exact ⟨fun _ => hgrant hpace, fun hp => by simp [Lane.liftStop, hpace] at hp, hmode⟩
  follows hf := by
    have hpace : x.settings.pace = .free := hf
    have hopen : x.liftStop.derivedOpen p.stop.lift = x.derivedOpen p.lift := by
      simp [Lane.derivedOpen_eq, Lane.windowActive, Lane.liftStop, hpace]
    have hgoverning : x.liftStop.governing p.stop.lift = x.governing p.lift := Lane.governing_congr rfl hopen
    obtain ⟨h1, h2⟩ := h.follows trivial
    constructor
    · rw [hgoverning]
      exact h1
    · rw [hopen]
      exact h2

/-- A lane without a grant, its gate closing or SHUT, or RELEASED under a fault or by a held command. -/
theorem Lane.gateSound_of_closed (hpacing : PacingSound p) (hmodes : x.ModeSound .sound) (hgrant : x.grant = none)
    (htimer : x.timer = none) (hfaults : x.faults.any = true → x.gate = .released)
    (hclosed : x.faults.any = false → x.gate ≠ .opened ∧ x.gate ≠ .released)
    (hheld : ∀ c, x.mode = .held c → c = .closeArm) : x.GateSound p .settled where
  pacing := hpacing
  mode := hmodes
  faults := hfaults
  timer ht := by simp [htimer] at ht
  follows _ := by
    have hopen : x.derivedOpen p.lift = false := by simp [Lane.derivedOpen, hgrant]
    have hclose : x.governing p.lift = .closeArm := by
      unfold Lane.governing
      split
      · next c hm => exact hheld c hm
      · rfl
      · simp [hopen]
    constructor
    · intro hf
      simpa [hclose] using hclosed hf
    · intro g hg
      simp [hgrant] at hg

theorem Lane.closingGate_closed (x : Lane) : x.closingGate ≠ .opened ∧ x.closingGate ≠ .released := by
  unfold Lane.closingGate
  split <;> simp

theorem pacingSound_warmStart (p : Pacing) : PacingSound p.warmStart := by
  cases hs : p.source <;> simp [PacingSound, Pacing.warmStart, hs]

theorem gateSound_invariant : LaneInvariant (fun p σ x => x.GateSound p σ) where
  move {p σ x σ' y} hm h := by
    have hmodes : y.ModeSound σ'.slot := modeSound_invariant.move hm h.mode
    cases hm with
    | slacken _ gates gates' slot hg =>
      refine ⟨h.pacing, h.mode, h.faults, h.timer, fun hf => ?_⟩
      rcases hg with rfl | rfl
      · exact h.follows trivial
      · exact hf.elim
    | freeFollows _ _ hp => exact ⟨h.pacing, h.mode, h.faults, h.timer, fun _ => h.follows hp⟩
    | derive => exact h.derive
    | beamChange _ _ beam _ =>
      cases beam <;> exact h.same hmodes rfl rfl rfl rfl rfl rfl rfl rfl
    | beamAccepted _ _ beam _ =>
      obtain ⟨_, _, heq⟩ := Lane.beamAccepted_eq x beam
      rw [heq, Lane.setBeam_eq] at hmodes ⊢
      exact h.same hmodes rfl rfl rfl rfl rfl rfl rfl rfl
    | forward _ _ g hg hlive hlast =>
      exact h.of_grant hmodes hg (by simp [Grant.forward, hlast])
    | forwardLast => exact h.astray hmodes h.faults fun ht => ⟨fun _ => rfl, (h.timer ht).2⟩
    | back _ _ g hg _ hlive => exact h.of_grant hmodes hg (by simp [Grant.back, hlive])
    | backDraining => exact h.astray hmodes h.faults fun ht => ⟨fun _ => rfl, (h.timer ht).2⟩
    | endHold =>
      exact h.astray hmodes h.faults fun ht =>
        ⟨(h.timer ht).1, (h.timer ht).2.1, LaneMode.endHold_ne_disabled (h.timer ht).2.2⟩
    | setMode _ _ _ _ hmm => exact h.astray hmodes h.faults fun ht => ⟨(h.timer ht).1, (h.timer ht).2.1, hmm⟩
    | setHeld =>
      exact h.astray hmodes h.faults fun ht => ⟨(h.timer ht).1, (h.timer ht).2.1, by simp [Lane.setMode]⟩
    | close =>
      refine h.astray hmodes (fun hf => ?_) h.timer
      have hf : x.faults.any = true := hf
      simpa [Lane.issue, Lane.gateAfter, hf] using h.faults hf
    | armInput => exact h.armInput hmodes
    | setFault => exact h.astray hmodes (fun _ => rfl) h.timer
    | clearFaults => exact h.astray hmodes (fun hf => h.faults (FaultSet.any_of_remove hf)) h.timer
    | resetGate =>
      refine h.astray hmodes (fun hf => by cases hf) fun ht => ⟨(h.timer ht).1, (h.timer ht).2.1, ?_⟩
      have hmode := (h.timer ht).2.2
      cases hx : x.mode <;> simp_all [Lane.resetGate, Lane.placeBeams]
    | dayClose =>
      refine h.astray hmodes h.faults fun ht => ⟨(h.timer ht).1, (h.timer ht).2.1, ?_⟩
      have hmode := (h.timer ht).2.2
      cases hx : x.mode <;> simp_all [Lane.dayClose]
    | openReached =>
      exact h.astray hmodes h.faults fun ht => h.timer (by simpa [Lane.openReached] using ht)
    | closeReached =>
      exact h.astray hmodes h.faults fun ht => h.timer (by simpa [Lane.closeReached] using ht)
    | sync _ _ _ hpace hmode hlift =>
      have hrunning : p.lift = .running := hlift.elim id fun hg => h.pacing.2.1 (h.pacing.1.1 hg)
      refine h.astray hmodes h.faults fun _ => ⟨fun hp => ?_, fun _ => hrunning, hmode⟩
      have hp : x.settings.pace = .free := hp
      simp [hpace] at hp
    | disable => exact h.astray hmodes h.faults fun ht => by cases ht
    | enable _ _ hmode =>
      refine h.astray hmodes h.faults fun ht => ?_
      cases hp : x.settings.pace with
      | paced => simp [Lane.enable, hp] at ht
      | free => exact absurd hmode (h.timer (by simpa [Lane.enable, hp] using ht)).2.2
    | repace => exact h.astray hmodes h.faults fun ht => by cases ht
    | refault _ _ m =>
      obtain ⟨_, heq⟩ := Lane.refault_eq x m
      rw [heq] at hmodes ⊢
      exact h.same hmodes rfl rfl rfl rfl rfl rfl rfl rfl
    | _ => exact h.of_same hmodes rfl rfl rfl rfl rfl rfl rfl rfl
  place {p gates n x g} hg h := by
    have hmodes := modeSound_invariant.place (p := p) (gates := gates) hg h.mode
    refine h.astray hmodes (by rw [Lane.place_eq]; exact h.faults) fun ht => ⟨fun _ => by simp, ?_, ?_⟩
    · intro hpace
      rw [Lane.place_eq] at ht hpace
      have hpace : x.settings.pace = .paced := hpace
      exact (h.timer (by simpa [hpace] using ht)).2.1 hpace
    · rw [Lane.place_eq]
      have hmode : x.mode = .auto := (h.mode.ready n rfl).1
      simp [hmode]
  release {p σ x} hσ h := by
    have hmodes := modeSound_invariant.release (p := p) hσ h.mode
    rw [Lane.vacate_eq] at hmodes ⊢
    refine h.astray hmodes h.faults fun ht => ?_
    cases hpace : x.settings.pace with
    | free => simp [hpace] at ht
    | paced =>
      have hold := h.timer (by simpa [hpace] using ht)
      exact ⟨fun hp => by simp at hp, fun _ => hold.2.1 hpace, hold.2.2⟩
  elapse {p σ x} ms h := by
    have hopen : (x.elapse ms).derivedOpen p.lift = x.derivedOpen p.lift := by
      cases hg : x.grant <;> cases ht : x.timer <;>
        simp [Lane.derivedOpen_eq, Lane.windowActive, Lane.elapse, hg, ht, pacedActive, Grant.live]
    have hgate : ((x.elapse ms).gate = .opened ↔ x.gate = .opened) ∧
        ((x.elapse ms).gate = .released ↔ x.gate = .released) := by
      cases hg : x.gate <;> simp [Lane.elapse, hg]
    refine ⟨h.pacing, modeSound_invariant.elapse (p := p) ms h.mode, fun hf => hgate.2.2 (h.faults hf), fun ht => ?_,
      fun hf => ?_⟩
    · have hold := h.timer (by simpa [Lane.elapse] using ht)
      exact ⟨fun hp => by simpa [Lane.elapse] using hold.1 hp, hold.2⟩
    · have hgoverning : (x.elapse ms).governing p.lift = x.governing p.lift := Lane.governing_congr rfl hopen
      obtain ⟨h1, h2⟩ := h.follows hf
      constructor
      · rw [hgoverning, hgate.1, hgate.2]
        exact h1
      · intro g hg
        obtain ⟨g', hg', rfl⟩ := Option.map_eq_some_iff.1 hg
        rw [hopen]
        exact h2 g' hg'
  pacing hq hlift h := h.setPacing hq hlift
  stopLift hloss h := h.stopLift hloss
  clearDaily h := h.same (h.mode.of_same rfl rfl rfl) rfl rfl rfl rfl rfl rfl rfl rfl
  coldStart x := by
    refine Lane.gateSound_of_closed (by decide) (modeSound_invariant.coldStart x) rfl rfl (fun hf => ?_) (fun hf => ?_)
      fun c hm => by cases hm
    · have hraw : x.obstruction.raw = true := by simpa [Lane.coldStart, FaultSet.any] using hf
      simp [Lane.coldStart, hraw]
    · have hraw : x.obstruction.raw = false := by simpa [Lane.coldStart, FaultSet.any] using hf
      simp only [Lane.coldStart, hraw]
      exact Lane.closingGate_closed _
  warmStart {p σ x} h := by
    refine Lane.gateSound_of_closed (pacingSound_warmStart p) (modeSound_invariant.warmStart (p := p) h.mode) rfl rfl
      (fun hf => ?_) (fun hf => ?_) fun c hm => ?_
    · have hraw : x.obstruction.raw = true := by simpa [Lane.warmStart, Lane.placeBeams, FaultSet.any] using hf
      simp [Lane.warmStart, hraw]
    · have hraw : x.obstruction.raw = false := by simpa [Lane.warmStart, Lane.placeBeams, FaultSet.any] using hf
      simp only [Lane.warmStart, hraw]
      exact Lane.closingGate_closed _
    · cases hx : x.mode <;> simp_all [Lane.warmStart, Lane.placeBeams]

/-- Between commands the gate's side of every lane is what GatesSound says. -/
theorem gatesSound_iff : GatesSound s ↔ ∀ l, (s.lane l).GateSound s.pacing .settled := by
  constructor
  · rintro ⟨hfaults, hgates, hgrants, hmodes, htimers, hpacing⟩ l
    exact ⟨hpacing, modesSound_iff.1 hmodes l, hfaults l, htimers l, fun _ => ⟨hgates l, hgrants l⟩⟩
  · intro h
    exact ⟨fun l => (h l).faults, fun l => ((h l).follows trivial).gate, fun l => ((h l).follows trivial).grant,
      modesSound_iff.2 fun l => (h l).mode, fun l => (h l).timer, (h 0).pacing⟩

/-- Settles O58: both are kept lane by lane, move by move; a lane amid a command is re-derived before its end. -/
theorem stepsKeepTheGatesSafe : Obligations.StepsKeepTheGatesSafe := fun _ _ ht =>
  ⟨fun h => gatesSound_iff.2 (gateSound_invariant.of_step ht (gatesSound_iff.1 h)), rearmSound_invariant.of_step ht⟩

end Sys2Proof.Machine

/-! The pass usage table by its lookups, and the grant lanes that tie it to the grants of the lanes. -/

namespace Sys2Proof.Machine

open Sys2Proof.Safety

variable {s t : State} {ps qs : List PassRecord} {grants : Lane.Index → Option Nat}

/-! ## Lookups after each change of the table -/

/-- Records in ascending serial order. -/
def Ascending (ps : List PassRecord) : Prop := ps.Pairwise fun a b => a.serial < b.serial

theorem serial_of_findPass {n : Nat} {r : PassRecord} (h : findPass ps n = some r) : r.serial = n := by
  simpa using List.find?_some h

theorem mem_of_findPass {n : Nat} {r : PassRecord} (h : findPass ps n = some r) : r ∈ ps := List.mem_of_find?_eq_some h

theorem Ascending.findPass_of_mem (h : Ascending ps) {r : PassRecord} (hr : r ∈ ps) :
    findPass ps r.serial = some r := by
  induction ps with
  | nil => cases hr
  | cons p ps ih =>
    obtain ⟨hp, hps⟩ := List.pairwise_cons.1 h
    rcases List.mem_cons.1 hr with rfl | hr
    · simp [findPass]
    · have hlt : p.serial < r.serial := hp r hr
      have hne : (p.serial == r.serial) = false := by simpa using Nat.ne_of_lt hlt
      simpa only [findPass, List.find?_cons, hne] using ih hps hr

theorem Ascending.findPass_iff (h : Ascending ps) {n : Nat} {r : PassRecord} :
    findPass ps n = some r ↔ r ∈ ps ∧ r.serial = n := by
  constructor
  · exact fun hr => ⟨mem_of_findPass hr, serial_of_findPass hr⟩
  · rintro ⟨hr, rfl⟩
    exact h.findPass_of_mem hr

theorem findPass_map {f : PassRecord → PassRecord} (hf : ∀ r, (f r).serial = r.serial) (n : Nat) :
    findPass (ps.map f) n = (findPass ps n).map f := by
  simp only [findPass, List.find?_map, Function.comp_def, hf]

theorem findPass_changePass {f : PassRecord → PassRecord} (hf : ∀ r, (f r).serial = r.serial) (k n : Nat) :
    findPass (changePass ps k f) n = (findPass ps n).map fun r => if n = k then f r else r := by
  rw [changePass, findPass_map fun r => by split <;> simp [hf]]
  cases h : findPass ps n with
  | none => rfl
  | some r =>
    have hn : r.serial = n := serial_of_findPass h
    simp [hn]

theorem findPass_changePass_other {f : PassRecord → PassRecord} {k n : Nat} (hn : n ≠ k)
    (hf : ∀ r, (f r).serial = r.serial) : findPass (changePass ps k f) n = findPass ps n := by
  rw [findPass_changePass hf]
  simp [hn]

theorem findPass_changePass_some {f : PassRecord → PassRecord} {k : Nat} {r : PassRecord} (hr : findPass ps k = some r)
    (hf : ∀ r, (f r).serial = r.serial) : findPass (changePass ps k f) k = some (f r) := by
  rw [findPass_changePass hf, hr]
  simp

theorem findPass_of_changePass {f : PassRecord → PassRecord} {k : Nat} {q : PassRecord}
    (hq : findPass (changePass ps k f) k = some q) (hf : ∀ r, (f r).serial = r.serial) :
    ∃ r, findPass ps k = some r ∧ q = f r := by
  rw [findPass_changePass hf] at hq
  obtain ⟨r, hr, rfl⟩ := Option.map_eq_some_iff.1 hq
  exact ⟨r, hr, by simp⟩

theorem findPass_dropPass_same (n : Nat) : findPass (dropPass ps n) n = none := by
  simp [findPass, dropPass]

theorem findPass_dropPass_other {k n : Nat} (h : n ≠ k) : findPass (dropPass ps k) n = findPass ps n := by
  rw [findPass, findPass, dropPass, List.find?_filter]
  congr 1
  funext r
  by_cases hr : r.serial = n <;> simp [hr, h]

theorem putPass_length_of_none {r : PassRecord} (h : findPass ps r.serial = none) :
    (putPass ps r).length = ps.length + 1 := by
  induction ps with
  | nil => rfl
  | cons p ps ih =>
    have hne : p.serial ≠ r.serial := fun he => by simp [findPass, he] at h
    have hrest : findPass ps r.serial = none := by simpa [findPass, hne] using h
    unfold putPass
    split
    · rfl
    · split
      · next he => exact absurd he.symm hne
      · rw [List.length_cons, ih hrest, List.length_cons]

theorem Ascending.putPass_length_of_some (h : Ascending ps) {r q : PassRecord} (hq : findPass ps r.serial = some q) :
    (putPass ps r).length = ps.length := by
  induction ps with
  | nil => cases hq
  | cons p ps ih =>
    obtain ⟨hp, hps⟩ := List.pairwise_cons.1 h
    unfold putPass
    split
    · next hlt =>
      have hserial : q.serial = r.serial := serial_of_findPass hq
      rcases List.mem_cons.1 (mem_of_findPass hq) with rfl | hmem
      · omega
      · have hlt' : p.serial < q.serial := hp q hmem
        omega
    · split
      · rfl
      · next hne =>
        have hne : (p.serial == r.serial) = false := by simpa using fun he => hne he.symm
        have hq : findPass ps r.serial = some q := by simpa only [findPass, List.find?_cons, hne] using hq
        rw [List.length_cons, ih hps hq, List.length_cons]

/-! ## The table's own invariant (R21) -/

/-- At most 4,096 records of ascending, non-zero serials. -/
structure TableSound (ps : List PassRecord) : Prop where
  ascending : Ascending ps
  positive : ∀ r ∈ ps, 1 ≤ r.serial
  bounded : ps.length ≤ Config.passCapacity

theorem tableSound_nil : TableSound [] := ⟨List.Pairwise.nil, (by simp), by simp⟩

theorem TableSound.map (h : TableSound ps) {f : PassRecord → PassRecord} (hf : ∀ r, (f r).serial = r.serial) :
    TableSound (ps.map f) where
  ascending := by
    rw [Ascending, List.pairwise_map]
    simp only [hf]
    exact h.ascending
  positive := by
    rw [List.forall_mem_map]
    simpa only [hf] using h.positive
  bounded := by simpa using h.bounded

theorem TableSound.change (h : TableSound ps) (k : Nat) {f : PassRecord → PassRecord}
    (hf : ∀ r, (f r).serial = r.serial) : TableSound (changePass ps k f) :=
  h.map fun r => by split <;> simp [hf]

theorem TableSound.sublist (h : TableSound ps) (hsub : List.Sublist qs ps) : TableSound qs :=
  ⟨h.ascending.sublist hsub, fun r hr => h.positive r (hsub.subset hr), Nat.le_trans hsub.length_le h.bounded⟩

theorem TableSound.put (h : TableSound ps) {r : PassRecord} (hserial : 1 ≤ r.serial)
    (hroom : findPass ps r.serial = none → ps.length < Config.passCapacity) : TableSound (putPass ps r) where
  ascending := (putPass_pairwise h.ascending r).1
  positive q hq := by
    rcases (putPass_pairwise h.ascending r).2 q hq with rfl | hq
    · exact hserial
    · exact h.positive q hq
  bounded := by
    cases hfind : findPass ps r.serial with
    | none =>
      rw [putPass_length_of_none hfind]
      exact hroom hfind
    | some q =>
      rw [h.ascending.putPass_length_of_some hfind]
      exact h.bounded

/-! ## Grants and grant lanes (R24, R70, R159) -/

/-- Grants and grant lanes name each other, where `grants` gives the serial of each lane's grant, and a record with a grant
lane is not refunded. -/
structure Locked (grants : Lane.Index → Option Nat) (ps : List PassRecord) : Prop where
  named : ∀ l n, grants l = some n → ∃ r, findPass ps n = some r ∧ r.grantLane = some l
  granted : ∀ n r l, findPass ps n = some r → r.grantLane = some l → grants l = some n ∧ r.refund = none

/-- A record that has no grant lane, before or after, changes at will. -/
theorem Locked.of_untied (h : Locked grants ps) (k : Nat) (hother : ∀ n, n ≠ k → findPass qs n = findPass ps n)
    (hbefore : ∀ r, findPass ps k = some r → r.grantLane = none)
    (hafter : ∀ r, findPass qs k = some r → r.grantLane = none) : Locked grants qs where
  named l n hn := by
    obtain ⟨r, hr, hl⟩ := h.named l n hn
    have hne : n ≠ k := by
      rintro rfl
      simp [hbefore r hr] at hl
    exact ⟨r, (hother n hne).trans hr, hl⟩
  granted n r l hr hl := by
    have hne : n ≠ k := by
      rintro rfl
      simp [hafter r hr] at hl
    exact h.granted n r l ((hother n hne).symm.trans hr) hl

/-- A lane without a grant takes one for a record that had no grant lane and now names the lane. -/
theorem Locked.placed (h : Locked grants ps) {l : Lane.Index} {k : Nat} {r : PassRecord} (hl : grants l = none)
    (hother : ∀ n, n ≠ k → findPass qs n = findPass ps n)
    (hbefore : ∀ r, findPass ps k = some r → r.grantLane = none)
    (hr : findPass qs k = some r) (hlane : r.grantLane = some l) (hrefund : r.refund = none) :
    Locked (Function.update grants l (some k)) qs where
  named l' n hn := by
    by_cases hl' : l' = l
    · subst hl'
      rw [Function.update_self] at hn
      cases hn
      exact ⟨r, hr, hlane⟩
    · rw [Function.update_of_ne hl'] at hn
      obtain ⟨q, hq, hlq⟩ := h.named l' n hn
      have hne : n ≠ k := by
        rintro rfl
        simp [hbefore q hq] at hlq
      exact ⟨q, (hother n hne).trans hq, hlq⟩
  granted n q l' hq hlq := by
    by_cases hn : n = k
    · subst hn
      rw [hr] at hq
      cases hq
      rw [hlane] at hlq
      cases hlq
      exact ⟨Function.update_self .., hrefund⟩
    · obtain ⟨hheld, hq'⟩ := h.granted n q l' ((hother n hn).symm.trans hq) hlq
      have hl' : l' ≠ l := by
        rintro rfl
        simp [hl] at hheld
      exact ⟨by rw [Function.update_of_ne hl', hheld], hq'⟩

/-- A lane's grant leaves its slot, its record's grant lane cleared. -/
theorem Locked.released (h : Locked grants ps) {l : Lane.Index} {k : Nat} (hl : grants l = some k)
    (hother : ∀ n, n ≠ k → findPass qs n = findPass ps n) (hafter : ∀ r, findPass qs k = some r → r.grantLane = none) :
    Locked (Function.update grants l none) qs where
  named l' n hn := by
    have hl' : l' ≠ l := by
      rintro rfl
      simp at hn
    rw [Function.update_of_ne hl'] at hn
    obtain ⟨q, hq, hlq⟩ := h.named l' n hn
    have hne : n ≠ k := by
      rintro rfl
      obtain ⟨q', hq', hlq'⟩ := h.named l n hl
      rw [hq] at hq'
      cases hq'
      rw [hlq] at hlq'
      cases hlq'
      exact hl' rfl
    exact ⟨q, (hother n hne).trans hq, hlq⟩
  granted n q l' hq hlq := by
    have hn : n ≠ k := by
      rintro rfl
      simp [hafter q hq] at hlq
    obtain ⟨hheld, hq'⟩ := h.granted n q l' ((hother n hn).symm.trans hq) hlq
    have hl' : l' ≠ l := by
      rintro rfl
      rw [hl] at hheld
      cases hheld
      exact hn rfl
    exact ⟨by rw [Function.update_of_ne hl', hheld], hq'⟩

/-- A change of records that touches neither serials, grant lanes nor refunds. -/
theorem Locked.map (h : Locked grants ps) {f : PassRecord → PassRecord}
    (hf : ∀ r, (f r).serial = r.serial ∧ (f r).grantLane = r.grantLane ∧ (f r).refund = r.refund) :
    Locked grants (ps.map f) where
  named l n hn := by
    obtain ⟨r, hr, hl⟩ := h.named l n hn
    refine ⟨f r, ?_, (hf r).2.1.trans hl⟩
    rw [findPass_map fun r => (hf r).1, hr, Option.map_some]
  granted n q l hq hl := by
    rw [findPass_map fun r => (hf r).1] at hq
    obtain ⟨r, hr, rfl⟩ := Option.map_eq_some_iff.1 hq
    obtain ⟨-, hlane, hrefund⟩ := hf r
    rw [hlane] at hl
    rw [hrefund]
    exact h.granted n r l hr hl

/-- With no grant and no grant lane there is nothing to agree on. -/
theorem locked_of_none (hheld : ∀ l, grants l = none) (hps : ∀ r ∈ ps, r.grantLane = none) : Locked grants ps where
  named l n hn := by simp [hheld l] at hn
  granted n r l hr hl := by simp [hps r (mem_of_findPass hr)] at hl

/-- Where no lane holds a grant no record names a lane. -/
theorem Locked.untied (h : Locked grants ps) (hps : Ascending ps) (hheld : ∀ l, grants l = none) :
    ∀ r ∈ ps, r.grantLane = none := by
  intro r hr
  cases hl : r.grantLane with
  | none => rfl
  | some l =>
    obtain ⟨hh, -⟩ := h.granted r.serial r l (hps.findPass_of_mem hr) hl
    simp [hheld l] at hh

/-- The serial of each lane's grant. -/
def State.held (s : State) (l : Lane.Index) : Option Nat := (s.lane l).grant.map Grant.serial

theorem State.held_eq_none {l : Lane.Index} : s.held l = none ↔ (s.lane l).grant = none := Option.map_eq_none_iff

theorem grantsLocked_iff (h : Ascending s.passes) : GrantsLocked s ↔ Locked s.held s.passes := by
  constructor
  · rintro ⟨hnamed, hgranted⟩
    refine ⟨fun l n hn => ?_, fun n r l hr hl => ?_⟩
    · obtain ⟨g, hg, rfl⟩ := Option.map_eq_some_iff.1 hn
      obtain ⟨r, hr, hserial, hl⟩ := hnamed l g hg
      exact ⟨r, h.findPass_iff.2 ⟨hr, hserial⟩, hl⟩
    · obtain ⟨hmem, rfl⟩ := h.findPass_iff.1 hr
      obtain ⟨⟨g, hg, hserial⟩, hrefund⟩ := hgranted r hmem l hl
      exact ⟨Option.map_eq_some_iff.2 ⟨g, hg, hserial⟩, hrefund⟩
  · rintro ⟨hnamed, hgranted⟩
    refine ⟨fun l g hg => ?_, fun r hr l hl => ?_⟩
    · obtain ⟨r, hr, hl⟩ := hnamed l g.serial (Option.map_eq_some_iff.2 ⟨g, hg, rfl⟩)
      obtain ⟨hmem, hserial⟩ := h.findPass_iff.1 hr
      exact ⟨r, hmem, hserial, hl⟩
    · obtain ⟨hheld, hrefund⟩ := hgranted r.serial r l (h.findPass_of_mem hr) hl
      obtain ⟨g, hg, hserial⟩ := Option.map_eq_some_iff.1 hheld
      exact ⟨⟨g, hg, hserial⟩, hrefund⟩

end Sys2Proof.Machine

/-! What the passes in use promise: the table, the grants in the day, the grant lanes. -/

namespace Sys2Proof.Machine

open Sys2Proof.Safety

variable {s t : State}

/-! ## The serials that wait (R53) -/

/-- No credential of serial 0 waits, and no lane is ready for a decision of one. -/
def Lane.WaitingSound (slot : Slot) (x : Lane) : Prop :=
  (∀ w ∈ x.waiting, 1 ≤ w.serial) ∧ ∀ n, slot = .ready n → 1 ≤ n

theorem Lane.WaitingSound.of_same {slot slot' : Slot} {x y : Lane} (h : x.WaitingSound slot)
    (hw : y.waiting = x.waiting) (hslot : ∀ n, slot' = .ready n → slot = .ready n) : y.WaitingSound slot' :=
  ⟨by rw [hw]; exact h.1, fun n hn => h.2 n (hslot n hn)⟩

theorem Lane.waitingSound_of_none {slot : Slot} {x : Lane} (hw : x.waiting = none)
    (hslot : ∀ n, slot ≠ .ready n) : x.WaitingSound slot :=
  ⟨fun w h => by simp [hw] at h, fun n hn => absurd hn (hslot n)⟩

theorem waitingSound_invariant : LaneInvariant (fun _ σ x => x.WaitingSound σ.slot) where
  move {p σ x σ' y} hm h := by
    cases hm with
    | wait _ w _ _ _ hserial => exact ⟨fun v hv => by cases hv; exact hserial, fun n hn => by cases hn⟩
    | dropWaiting => exact Lane.waitingSound_of_none rfl fun n hn => by cases hn
    | takeUp _ _ w hw => exact ⟨(fun v hv => by cases hv), fun n hn => by cases hn; exact h.1 w hw⟩
    | ready _ _ n _ _ hserial => exact ⟨h.1, fun m hm => by cases hm; exact hserial⟩
    | derive => rw [Lane.derive_eq]; exact h.of_same rfl fun n hn => hn
    | beamChange _ _ beam _ => cases beam <;> exact h
    | beamAccepted _ _ beam _ =>
      obtain ⟨_, _, heq⟩ := Lane.beamAccepted_eq x beam
      rw [heq, Lane.setBeam_eq]
      exact h
    | refault _ _ m =>
      obtain ⟨_, heq⟩ := Lane.refault_eq x m
      rw [heq]
      exact h
    | resetGate => exact Lane.waitingSound_of_none rfl fun n hn => by cases hn
    | dayClose => exact Lane.waitingSound_of_none rfl fun n hn => by cases hn
    | _ => exact h.of_same rfl (by simp)
  place _ h := by
    rw [Lane.place_eq]
    exact h.of_same rfl fun n hn => by cases hn
  release _ h := by
    rw [Lane.vacate_eq]
    exact h.of_same rfl fun n hn => by cases hn
  elapse ms h := by
    refine ⟨fun w hw => ?_, h.2⟩
    obtain ⟨v, hv, rfl⟩ := Option.map_eq_some_iff.1 hw
    exact h.1 v hv
  pacing _ _ h := h
  stopLift _ h := h.of_same rfl fun n hn => by cases hn
  clearDaily h := h
  coldStart _ := Lane.waitingSound_of_none rfl fun n hn => by cases hn
  warmStart _ := Lane.waitingSound_of_none rfl fun n hn => by cases hn

/-! ## The serials that are held -/

/-- No move of a lane but the placing and the release of a grant changes whose grant it holds. -/
theorem LaneMove.held {p : Pacing} {σ σ' : Slack} {x y : Lane} (hm : LaneMove p σ x σ' y) :
    y.grant.map Grant.serial = x.grant.map Grant.serial := by
  cases hm with
  | derive =>
    rw [Lane.derive_eq]
    simp only
    split
    · rw [Option.map_map]
      congr 1
      funext g
      exact (Grant.derive_passages g _).2.2.2
    · rfl
  | beamChange _ _ beam _ => cases beam <;> rfl
  | beamAccepted _ _ beam _ =>
    obtain ⟨_, _, heq⟩ := Lane.beamAccepted_eq x beam
    rw [heq, Lane.setBeam_eq]
  | forward _ _ g hg => simp [hg, Grant.forward]
  | forwardLast _ _ g hg => simp [hg, Grant.forward]
  | back _ _ g hg => simp [hg, Grant.back]
  | backDraining _ _ g hg => simp [hg, Grant.back]
  | refault _ _ m =>
    obtain ⟨_, heq⟩ := Lane.refault_eq x m
    rw [heq]
  | _ => rfl

/-- A change of lane `l` alone changes whose grant lane `l` holds. -/
theorem State.held_update {u : State} {l : Lane.Index} {o : Option Nat} (hother : ∀ k, k ≠ l → u.lane k = t.lane k)
    (hl : (u.lane l).grant.map Grant.serial = o) : u.held = Function.update t.held l o := by
  funext k
  by_cases hk : k = l
  · subst hk
    rw [Function.update_self]
    exact hl
  · rw [Function.update_of_ne hk, State.held, hother k hk]
    rfl

theorem State.held_congr {u : State} (h : u.lanes = t.lanes) : u.held = t.held :=
  funext fun l => by rw [State.held, State.lane_congr h, State.held]

/-! ## Passes in use, move by move -/

/-- The pass table, the grants in the day and the grant lanes. -/
structure InUse (s : State) : Prop where
  table : TableSound s.passes
  inDay : ∀ l, s.held l ≠ none → dayIsOpen s.clock.dayState = true
  locked : Locked s.held s.passes

theorem InUse.of_frame (h : InUse t) {u : State} (hpasses : u.passes = t.passes) (hheld : u.held = t.held)
    (hday : u.clock.dayState = t.clock.dayState) : InUse u :=
  ⟨hpasses ▸ h.table, by rw [hheld, hday]; exact h.inDay, by rw [hheld, hpasses]; exact h.locked⟩

theorem InUse.held_none (h : InUse t) (hday : dayIsOpen t.clock.dayState = false) (l : Lane.Index) :
    t.held l = none := by
  by_contra hne
  simp [h.inDay l hne] at hday

theorem InUse.of_change (h : InUse t) {u : State} (hheld : u.held = t.held) (hday : u.clock.dayState = t.clock.dayState)
    (htable : TableSound u.passes) (hlocked : Locked t.held u.passes) : InUse u :=
  ⟨htable, by rw [hheld, hday]; exact h.inDay, by rw [hheld]; exact hlocked⟩

/-- A table without grant lanes, over lanes without grants. -/
theorem inUse_of_none (htable : TableSound t.passes) (hheld : ∀ l, t.held l = none)
    (hlane : ∀ r ∈ t.passes, r.grantLane = none) : InUse t :=
  ⟨htable, fun l hl => absurd (hheld l) hl, locked_of_none hheld hlane⟩

theorem lookupPass_eq_some {n : Nat} {r : PassRecord} (h : s.lookupPass n = some r) : findPass s.passes n = some r := by
  unfold State.lookupPass at h
  split at h
  · cases h
  · exact h

theorem lookupPass_eq_findPass {n : Nat} (hn : 1 ≤ n) : s.lookupPass n = findPass s.passes n := by
  rw [State.lookupPass, if_neg (by omega)]

/-- The subject of a tap with a serial is the record of that serial, or a new one where there is none (R62). -/
theorem subject_cases {l : Lane.Index} {tap : Tap} {sub : Subject} (hserial : 1 ≤ tap.serial)
    (h : s.subject l tap = some sub) :
    sub.record.serial = tap.serial ∧
      (sub.provisional = false ∧ findPass s.passes tap.serial = some sub.record ∨
        sub.provisional = true ∧ findPass s.passes tap.serial = none) := by
  unfold State.subject at h
  rw [lookupPass_eq_findPass hserial] at h
  split at h
  · next r hr =>
    cases h
    exact ⟨serial_of_findPass hr, .inl ⟨rfl, hr⟩⟩
  · next hnone =>
    split at h
    · split at h
      · cases h
        exact ⟨rfl, .inr ⟨rfl, hnone⟩⟩
      · cases h
    · cases h

theorem room_of_usageChecks {today : Nat} {sub : Subject} {p : Product} (h : s.usageChecks today sub p = none)
    (hprovisional : sub.provisional = true) : s.passes.length < Config.passCapacity := by
  by_contra hfull
  have hfull : sub.provisional = true ∧ Config.passCapacity ≤ s.passCount := ⟨hprovisional, Nat.le_of_not_lt hfull⟩
  have hsome {b : Prop} [Decidable b] {x y : Option DenialReason} (hx : x ≠ none) (hy : y ≠ none) :
      (if b then x else y) ≠ none := by
    split
    · exact hx
    · exact hy
  simp only [State.usageChecks, if_pos hfull] at h
  refine hsome ?_ (hsome ?_ (hsome ?_ (hsome ?_ (hsome ?_ ?_)))) h <;> simp

/-- A grant's record is locked for its lane, or made for it (R23, R24, R69). -/
theorem InUse.lock {l : Lane.Index} {tap : Tap} {sub : Subject} {p : Product} (h : InUse t) (hserial : 1 ≤ tap.serial)
    (hgrant : t.held l = none) (hd : t.decision l tap = .grant sub p) :
    TableSound (t.lock l sub).passes ∧
      Locked (Function.update t.held l (some sub.record.serial)) (t.lock l sub).passes := by
  obtain ⟨today, -, hsub, -, hrefund, hlane, husage⟩ := decision_grant hd
  obtain ⟨heq, ⟨hprovisional, hfind⟩ | ⟨hprovisional, hfind⟩⟩ := subject_cases hserial hsub
  · have hpasses : (t.lock l sub).passes =
        changePass t.passes sub.record.serial fun r => { r with grantLane := some l } := by
      simp [State.lock, hprovisional, State.setGrantLane]
    rw [← heq] at hfind
    rw [hpasses]
    refine ⟨h.table.change _ fun _ => rfl, h.locked.placed (r := { sub.record with grantLane := some l }) hgrant
      (fun n hn => findPass_changePass_other hn fun _ => rfl) (fun r hr => ?_) ?_ rfl hrefund⟩
    · rw [hfind] at hr
      cases hr
      exact hlane
    · exact findPass_changePass_some hfind fun _ => rfl
  · have hpasses : (t.lock l sub).passes = putPass t.passes { sub.record with grantLane := some l } := by
      simp [State.lock, hprovisional]
    rw [← heq] at hfind
    rw [hpasses]
    refine ⟨h.table.put (by simpa [heq] using hserial) fun _ => room_of_usageChecks husage hprovisional,
      h.locked.placed (r := { sub.record with grantLane := some l }) hgrant
        (fun n hn => findPass_putPass_other _ _ n hn) (fun r hr => ?_) (findPass_putPass_same _ _) rfl hrefund⟩
    simp [hfind] at hr

theorem InUse.place {l : Lane.Index} {tap : Tap} {sub : Subject} {p : Product} (h : InUse t) (hserial : 1 ≤ tap.serial)
    (hgrant : t.held l = none) (hd : t.decision l tap = .grant sub p) :
    InUse ((t.lock l sub).modLane l fun x => x.place (newGrant t l sub p)) := by
  obtain ⟨htable, hlocked⟩ := h.lock hserial hgrant hd
  obtain ⟨today, hday, -⟩ := decision_grant hd
  have hheld : State.held ((t.lock l sub).modLane l fun x => x.place (newGrant t l sub p)) =
      Function.update t.held l (some sub.record.serial) := by
    refine State.held_update (fun k hk => ?_) ?_
    · rw [State.lane_modLane_other _ l k _ hk, State.lock_lane]
    · rw [State.lane_modLane_same, Lane.place_grant]
      rfl
  have hclock : (t.lock l sub).clock = t.clock := (lock_counters t l sub).2.2
  refine ⟨htable, fun _ _ => ?_, by rw [hheld]; exact hlocked⟩
  simp [hclock, hday, dayIsOpen]

theorem InUse.release {l : Lane.Index} {g g' : Grant} (h : InUse t) (hg : (t.lane l).grant = some g')
    (hserial : g'.serial = g.serial) : InUse (t.release l g) := by
  have hl : t.held l = some g.serial := by rw [State.held, hg, Option.map_some, hserial]
  have hheld : (t.release l g).held = Function.update t.held l none := by
    refine State.held_update (fun k hk => State.release_lane_other t g hk) ?_
    rw [State.release_lane_same, Lane.vacate_grant]
    rfl
  have hpasses : (t.release l g).passes = changePass t.passes g.serial fun r => { r with grantLane := none } := rfl
  refine ⟨h.table.change _ fun _ => rfl, fun _ _ => h.inDay l (by simp [hl]), ?_⟩
  rw [hheld, hpasses]
  refine h.locked.released hl (fun n hn => findPass_changePass_other hn fun _ => rfl) fun r hr => ?_
  obtain ⟨q, -, rfl⟩ := findPass_of_changePass hr fun _ => rfl
  rfl

/-- A record without a grant lane is marked, replaced or removed. -/
theorem InUse.of_untied (h : InUse t) {u : State} (hheld : u.held = t.held) (hday : u.clock.dayState = t.clock.dayState)
    (htable : TableSound u.passes) (k : Nat) (hother : ∀ n, n ≠ k → findPass u.passes n = findPass t.passes n)
    (hbefore : ∀ r, findPass t.passes k = some r → r.grantLane = none)
    (hafter : ∀ r, findPass u.passes k = some r → r.grantLane = none) : InUse u :=
  h.of_change hheld hday htable (h.locked.of_untied k hother hbefore hafter)

theorem InUse.refundPass {n : Nat} {r : PassRecord} (h : InUse t) (f : Refund) (hr : t.lookupPass n = some r)
    (hlane : r.grantLane = none) : InUse (t.markRefund n f) := by
  have hfind := lookupPass_eq_some hr
  refine h.of_untied rfl rfl (h.table.change n fun _ => rfl) n
    (fun k hk => findPass_changePass_other hk fun _ => rfl) (fun q hq => ?_) fun q hq => ?_
  · rw [hfind] at hq
    cases hq
    exact hlane
  · obtain ⟨r', hr', rfl⟩ := findPass_of_changePass hq fun _ => rfl
    rw [hfind] at hr'
    cases hr'
    exact hlane

theorem InUse.storePass {r : PassRecord} (h : InUse t) (hserial : 1 ≤ r.serial) (hlane : r.grantLane = none)
    (hroom : (∃ q, t.lookupPass r.serial = some q ∧ q.grantLane = none) ∨
      (t.lookupPass r.serial = none ∧ t.passCount < Config.passCapacity)) :
    InUse { t with passes := putPass t.passes r } := by
  rw [lookupPass_eq_findPass hserial] at hroom
  refine h.of_untied rfl rfl (h.table.put hserial fun hnone => ?_) r.serial
    (fun n hn => findPass_putPass_other _ _ n hn) (fun q hq => ?_) fun q hq => ?_
  · rcases hroom with ⟨q, hq, -⟩ | ⟨-, hroom⟩
    · simp [hnone] at hq
    · exact hroom
  · rcases hroom with ⟨q', hq', hlane'⟩ | ⟨hnone, -⟩
    · rw [hq] at hq'
      cases hq'
      exact hlane'
    · simp [hnone] at hq
  · simp only [findPass_putPass_same, Option.some.injEq] at hq
    rw [← hq]
    exact hlane

theorem InUse.removePass {n : Nat} {r : PassRecord} (h : InUse t) (hr : t.lookupPass n = some r)
    (hlane : r.grantLane = none) : InUse { t with passes := dropPass t.passes n } := by
  have hfind := lookupPass_eq_some hr
  refine h.of_untied rfl rfl (h.table.sublist List.filter_sublist) n (fun k hk => findPass_dropPass_other hk)
    (fun q hq => ?_) fun q hq => ?_
  · rw [hfind] at hq
    cases hq
    exact hlane
  · simp [findPass_dropPass_same] at hq

theorem InUse.openingDone {d time : Nat} (h : InUse t) (hday : dayIsOpen t.clock.dayState = false) :
    InUse (t.completeOpening d time) := by
  have hpasses : (t.completeOpening d time).passes = openPasses t.passes d := by simp [State.completeOpening]
  have hheld : (t.completeOpening d time).held = t.held := State.held_congr (by simp [State.completeOpening])
  refine inUse_of_none ?_ (by rw [hheld]; exact h.held_none hday) ?_
  · rw [hpasses]
    exact (h.table.sublist List.filter_sublist).map fun _ => rfl
  · rw [hpasses, openPasses, List.forall_mem_map]
    intro r hr
    exact h.locked.untied h.table.ascending (h.held_none hday) r (List.mem_filter.1 hr).1

/-- Passes in use stay sound, move by move, while modes and waiting credentials are. -/
theorem InUse.of_work {P : Phase} (h : Work s P t) (hmodes : ∀ l, (s.lane l).ModeSound .sound)
    (hwaiting : ∀ l, (s.lane l).WaitingSound .sound) (hs : InUse s) : InUse t := by
  induction h with
  | start => exact hs
  | @lane φ b a t l σ y _ hm ih =>
    refine ih.of_frame rfl ?_ rfl
    rw [State.held_update (fun k hk => State.lane_setLane_other t l k y hk)
      ((congrArg _ (congrArg _ (State.lane_setLane_same t l y))).trans hm.held)]
    exact Function.update_eq_self l t.held
  | append body _ ih => exact ih.of_frame (by simp) (State.held_congr (by simp)) (by simp)
  | raise _ _ _ ih => exact ih.of_frame rfl rfl rfl
  | @place φ b a t l tap sub p gates hwork hφ hd ih =>
    have hslot : (φ l).slot = .ready tap.serial := by rw [hφ]
    have hserial : 1 ≤ tap.serial := (waitingSound_invariant.of_work hwork hwaiting l).2 _ hslot
    have hempty : (t.lane l).grant = none :=
      (modeSound_invariant.of_work hwork hmodes l).empty (by simp [hslot])
    exact ih.place hserial (State.held_eq_none.2 hempty) hd
  | release _ _ hg hserial ih => exact ih.release hg hserial
  | notePass serial f _ hf ih =>
    refine ih.of_change rfl rfl (ih.table.change serial fun r => (hf r).1) (ih.locked.map fun r => ?_)
    split
    · exact hf r
    · exact ⟨rfl, rfl, rfl⟩
  | refundPass f _ hr hlane ih => exact ih.refundPass f hr hlane
  | storePass r _ hserial hlane hroom ih => exact ih.storePass hserial hlane hroom
  | removePass _ hr hlane ih => exact ih.removePass hr hlane
  | denied _ _ ih => exact ih.of_frame rfl rfl rfl
  | ridden _ _ ih => exact ih.of_frame rfl rfl rfl
  | bus _ _ ih => exact ih.of_frame rfl rfl rfl
  | pacing _ _ _ _ ih => exact ih.of_frame rfl rfl rfl
  | stopLift _ _ ih =>
    refine ih.of_frame rfl (funext fun l => ?_) rfl
    rw [State.held, State.lane_map]
    rfl
  | loadBegun _ _ _ _ _ _ ih => exact ih.of_frame (by simp) (State.held_congr (by simp)) (by simp)
  | blockWritten _ _ _ _ ih =>
    exact ih.of_frame (by simp [State.writeBlock]) (State.held_congr (by simp [State.writeBlock]))
      (by simp [State.writeBlock])
  | loadAborted _ _ ih => exact ih.of_frame (by simp) (State.held_congr (by simp)) (by simp)
  | activated _ _ _ _ ih => exact ih.of_frame (by simp) (State.held_congr (by simp)) (by simp)
  | checkBegun _ _ _ _ ih =>
    exact ih.of_frame (by simp [Served.finish]) (State.held_congr (by simp [Served.finish])) (by simp [Served.finish])
  | @checkDone _ _ _ t x sig _ _ _ ih =>
    obtain ⟨hlanes, -, hclock, hpasses⟩ := completeCheck_frame t x sig
    exact ih.of_frame hpasses (State.held_congr hlanes) (by rw [hclock])
  | @openingBegun φ b t d time former _ _ _ ho ih =>
    have hclosed : dayIsOpen t.clock.dayState = false := by
      cases hday : t.clock.dayState <;> simp_all [DayState.opens, dayIsOpen]
    have hheld : State.held (Served.begun (t.acceptOpening d time former)).finish = t.held := by
      funext l
      have hlane : (Served.begun (t.acceptOpening d time former)).finish.lane l =
          { t.lane l with counts := (t.lane l).counts.clearDaily } := Safety.acceptOpening_lane t d time former l
      rw [State.held, hlane]
      rfl
    exact ⟨ih.table, fun l hl => absurd (by rw [hheld]; exact ih.held_none hclosed l) hl, by rw [hheld]; exact ih.locked⟩
  | openingDone _ hd ih => exact ih.openingDone (by rw [hd]; rfl)
  | dayClosed _ _ hg ih =>
    exact ⟨ih.table, fun l hl => absurd (State.held_eq_none.2 (hg l)) hl, ih.locked⟩
  | timeSet _ _ ih => exact ih.of_frame rfl rfl rfl
  | tick _ ih => exact ih.of_frame rfl rfl rfl
  | reports _ _ _ _ ih => exact ih.of_frame rfl rfl rfl
  | quieten _ ih => exact ih.of_frame rfl rfl rfl
  | resetting _ ih => exact ih.of_frame rfl rfl rfl
  | receiver _ _ ih => exact ih.of_frame rfl rfl rfl
  | offer tag payload _ ih =>
    obtain ⟨hlanes, -, hclock, hpasses⟩ := offerRequest_frame _ tag payload
    exact ih.of_frame hpasses (State.held_congr hlanes) (by rw [hclock])
  | ask _ _ ih => exact ih
  | answer _ _ _ ih => exact ih.of_frame rfl rfl rfl
  | @freed φ b a t f _ _ ih =>
    obtain ⟨hlanes, -, hclock, hpasses⟩ := lineFreed_frame t f.source
    exact ih.of_frame hpasses (State.held_congr hlanes) (by rw [hclock])
  | transmit _ ih => exact ih.of_frame (by simp) (State.held_congr (by simp)) (by simp)
  | @advance φ b a t ms _ ih =>
    refine ih.of_frame rfl (funext fun l => ?_) rfl
    rw [State.held, State.lane_advance, State.held]
    simp only [Lane.elapse, Option.map_map]
    rfl
  | @coldStart φ b a t _ _ =>
    refine inUse_of_none tableSound_nil (fun l => ?_) fun r hr => by cases hr
    rw [State.held, Safety.coldStart_lane]
    rfl
  | @warmStart φ b a t _ ih =>
    refine inUse_of_none (ih.table.map fun _ => rfl) (fun l => ?_) ?_
    · rw [State.held, Safety.warmStart_lane]
      rfl
    · exact List.forall_mem_map.2 fun r _ => rfl

theorem passesInUse_iff : PassesInUse s ↔
    (∀ l, (s.lane l).WaitingSound .sound) ∧ (∀ l, (s.lane l).ModeSound .sound) ∧ InUse s := by
  constructor
  · rintro ⟨⟨hascending, hpositive, hbounded, hwaiting⟩, hmodes, hday, hlocked⟩
    refine ⟨fun l => ⟨hwaiting l, fun n hn => by cases hn⟩, modesSound_iff.1 hmodes,
      ⟨hascending, hpositive, hbounded⟩, fun l hl => hday l ?_, (grantsLocked_iff hascending).1 hlocked⟩
    exact Option.isSome_iff_ne_none.2 fun hnone => hl (State.held_eq_none.2 hnone)
  · rintro ⟨hwaiting, hmodes, ⟨hascending, hpositive, hbounded⟩, hday, hlocked⟩
    refine ⟨⟨hascending, hpositive, hbounded, fun l => (hwaiting l).1⟩, modesSound_iff.2 hmodes, fun l hl => hday l ?_,
      (grantsLocked_iff hascending).2 hlocked⟩
    exact fun hnone => Option.isSome_iff_ne_none.1 hl (State.held_eq_none.1 hnone)

/-- Settles O59: the lanes' slots lane by lane, the records and their grant lanes move by move. -/
theorem stepsKeepPassesInUse : Obligations.StepsKeepPassesInUse := by
  intro s t ht
  refine ⟨fun h => ?_, fun ⟨hmodes, hgrants⟩ => ⟨modesSound_of_step ht hmodes, grantSound_invariant.of_step ht hgrants⟩⟩
  obtain ⟨hwaiting, hmodes, hs⟩ := passesInUse_iff.1 h
  obtain ⟨u, ⟨cs, rfl⟩, hwork⟩ := step_work ht
  exact passesInUse_iff.2 ⟨waitingSound_invariant.of_work hwork hwaiting, modeSound_invariant.of_work hwork hmodes,
    InUse.of_work hwork hmodes hwaiting ⟨hs.table, hs.inDay, hs.locked⟩⟩

end Sys2Proof.Machine

/-! The request side of the trunk: the queue cut into its answered and its open requests, and the transmitter. -/

namespace Sys2Proof.Machine

open Sys2Proof.Safety

variable {s t : State} {done asked rest : List Request} {x : Request}

/-! ## The queue in two parts -/

/-- The request queue is `done`, whose responses are ready or being sent, then `asked`, of which only the first may have
been taken. -/
structure Asks (done asked : List Request) (s : State) : Prop where
  queue : s.trunk.queue = done ++ asked
  answered : ∀ r ∈ done, isAnswered r = true
  opened : ∀ r ∈ asked, isAnswered r = false
  behind : ∀ r ∈ asked.tail, r.condition = .waiting
  responses : (answerSent s ++ s.trunk.ready).countP isResponse = done.length
  busies : (answerSent s ++ s.trunk.ready).countP (fun a => !isResponse a) = s.trunk.busy.length

theorem isAnswered_of_waiting (h : x.condition = .waiting) : isAnswered x = false := by simp [isAnswered, h]

theorem dropWhile_answered (hdone : ∀ r ∈ done, isAnswered r = true) (hasked : ∀ r ∈ asked, isAnswered r = false) :
    (done ++ asked).dropWhile isAnswered = asked := by
  rw [List.dropWhile_append_of_pos hdone]
  cases asked with
  | nil => rfl
  | cons r asked => rw [List.dropWhile_cons_of_neg (by simp [hasked r (by simp)])]

theorem countP_answered (hdone : ∀ r ∈ done, isAnswered r = true) (hasked : ∀ r ∈ asked, isAnswered r = false) :
    (done ++ asked).countP isAnswered = done.length := by
  rw [List.countP_append, List.countP_eq_length.2 hdone, List.countP_eq_zero.2 fun r hr => by simp [hasked r hr],
    Nat.add_zero]

theorem Asks.dropWhile_eq (h : Asks done asked s) : s.trunk.queue.dropWhile isAnswered = asked := by
  rw [h.queue, dropWhile_answered h.answered h.opened]

theorem asks_iff : QueueOrdered s ∧ AnswersReady s ↔ ∃ done asked, Asks done asked s := by
  constructor
  · rintro ⟨hordered, hresponses, hbusies⟩
    have hanswered : ∀ r ∈ s.trunk.queue.takeWhile isAnswered, isAnswered r = true := fun r hr =>
      List.mem_takeWhile_imp hr
    have hopened : ∀ r ∈ s.trunk.queue.dropWhile isAnswered, isAnswered r = false := by
      have hhead := List.head?_dropWhile_not isAnswered s.trunk.queue
      cases hd : s.trunk.queue.dropWhile isAnswered with
      | nil => simp
      | cons r rest =>
        rw [QueueOrdered, hd] at hordered
        rw [hd] at hhead
        intro q hq
        rcases List.mem_cons.1 hq with rfl | hq
        · simpa using hhead
        · exact isAnswered_of_waiting (hordered q hq)
    refine ⟨_, _, List.takeWhile_append_dropWhile.symm, hanswered, hopened, hordered, ?_, hbusies⟩
    rw [hresponses]
    conv_lhs => rw [← List.takeWhile_append_dropWhile (p := isAnswered) (l := s.trunk.queue)]
    exact countP_answered hanswered hopened
  · rintro ⟨done, asked, h⟩
    refine ⟨?_, ?_, h.busies⟩
    · rw [QueueOrdered, h.dropWhile_eq]
      exact h.behind
    · rw [h.responses, h.queue, countP_answered h.answered h.opened]

/-- Reads of the trunk only the queue, the BUSY answers, the answers ready and the frame being sent. -/
theorem Asks.of_same (h : Asks done asked s) (hqueue : t.trunk.queue = s.trunk.queue)
    (hbusy : t.trunk.busy = s.trunk.busy) (hready : t.trunk.ready = s.trunk.ready)
    (hsending : t.trunk.sending = s.trunk.sending) : Asks done asked t := by
  obtain ⟨hq, ha, ho, hb, hr, hbusies⟩ := h
  have hsent : answerSent t = answerSent s := by simp only [answerSent, hsending]
  exact ⟨hqueue.trans hq, ha, ho, hb, by rw [hsent, hready, hr], by rw [hsent, hready, hbusies, hbusy]⟩

/-! ## Answering, taking and queueing -/

theorem setOldest_of_asks (c : Condition) (hdone : ∀ r ∈ done, isAnswered r = true) (hx : isAnswered x = false) :
    setOldest c (done ++ x :: rest) = done ++ { x with condition := c } :: rest := by
  induction done with
  | nil => cases hc : x.condition <;> simp_all [setOldest, isAnswered]
  | cons r done ih =>
    have hr : isAnswered r = true := hdone r (by simp)
    have ih := ih fun q hq => hdone q (by simp [hq])
    cases hc : r.condition <;> simp_all [setOldest, isAnswered]

theorem oldestWaiting_of_asks (hdone : ∀ r ∈ done, isAnswered r = true) :
    oldestWaiting (done ++ asked) = oldestWaiting asked := by
  induction done with
  | nil => rfl
  | cons r done ih =>
    have hr : isAnswered r = true := hdone r (by simp)
    have ih := ih fun q hq => hdone q (by simp [hq])
    cases hc : r.condition <;> simp_all [oldestWaiting, isAnswered]

/-- A request can be taken only where the first open one waits (R167). -/
theorem Asks.head_of_oldestWaiting (h : Asks done asked s) (hq : (oldestWaiting s.trunk.queue).isSome = true) :
    ∃ x rest, asked = x :: rest ∧ x.condition = .waiting := by
  rw [h.queue, oldestWaiting_of_asks h.answered] at hq
  cases hasked : asked with
  | nil => simp [hasked, oldestWaiting] at hq
  | cons x rest =>
    have hx : isAnswered x = false := h.opened x (by simp [hasked])
    refine ⟨x, rest, rfl, ?_⟩
    cases hc : x.condition <;> simp_all [oldestWaiting, isAnswered]

theorem Asks.answer (h : Asks done (x :: rest) s) (result : Result) (results : List Byte) :
    ∃ y, Asks (done ++ [y]) rest (s.answer result results) := by
  have hx : isAnswered x = false := h.opened x (by simp)
  refine ⟨{ x with condition := .answered (oldestCode s.trunk.queue :: BitVec.ofNat 8 result.code :: results) }, ?_, ?_, fun r hr => h.opened r (by simp [hr]),
    fun r hr => h.behind r (List.mem_of_mem_tail hr), ?_, ?_⟩
  · rw [List.append_assoc]
    simp only [State.answer, h.queue]
    exact setOldest_of_asks _ h.answered hx
  · intro r hr
    rcases List.mem_append.1 hr with hr | hr
    · exact h.answered r hr
    · rw [List.mem_singleton.1 hr]
      rfl
  · simp only [State.answer]
    rw [← List.append_assoc, List.countP_append, List.length_append]
    exact congrArg (· + 1) h.responses
  · simp only [State.answer]
    rw [← List.append_assoc, List.countP_append]
    exact h.busies

theorem Asks.take (h : Asks done (x :: rest) s) :
    Asks done ({ x with condition := .taken } :: rest) (Served.begun s).finish := by
  have hx : isAnswered x = false := h.opened x (by simp)
  refine ⟨?_, h.answered, ?_, h.behind, h.responses, h.busies⟩
  · simp only [Served.finish, h.queue]
    exact setOldest_of_asks _ h.answered hx
  · intro r hr
    rcases List.mem_cons.1 hr with rfl | hr
    · rfl
    · exact h.opened r (by simp [hr])

/-- A request joins the open ones at the tail, or a BUSY answer its list (R166). -/
theorem Asks.offer (h : Asks done asked s) (tag : Byte) (payload : List Byte) :
    Asks done asked (s.offerRequest tag payload) ∨
      Asks done (asked ++ [{ tag := tag, payload := payload, condition := .waiting }]) (s.offerRequest tag payload) := by
  unfold State.offerRequest
  split
  · refine .inr ⟨by simp [h.queue], h.answered, ?_, ?_, h.responses, h.busies⟩
    · intro r hr
      rcases List.mem_append.1 hr with hr | hr
      · exact h.opened r hr
      · rw [List.mem_singleton.1 hr]
        rfl
    · intro r hr
      cases asked with
      | nil => simp at hr
      | cons y rest =>
        rcases List.mem_append.1 hr with hr | hr
        · exact h.behind r hr
        · rw [List.mem_singleton.1 hr]
  · split
    · refine .inl ⟨h.queue, h.answered, h.opened, h.behind, ?_, ?_⟩
      · rw [← List.append_assoc, List.countP_append]
        exact h.responses
      · rw [← List.append_assoc, List.countP_append, List.length_append]
        exact congrArg (· + 1) h.busies
    · exact .inl h

/-! ## The line -/

/-- The end of a frame takes the answer that it carried from its list (R166). -/
theorem Asks.freed (h : Asks done asked s) {f : OutFrame} (hf : s.trunk.sending = some f) :
    ∃ done', Asks done' asked (s.lineFreed f.source) := by
  have hresponses := h.responses
  have hbusies := h.busies
  obtain ⟨source, kind, tag, payload⟩ := f
  cases source with
  | answer a =>
    simp only [answerSent, hf, List.singleton_append, List.countP_cons] at hresponses hbusies
    cases a with
    | response =>
      cases done with
      | nil => simp [isResponse] at hresponses
      | cons d done =>
        refine ⟨done, by simp [State.lineFreed, h.queue], fun r hr => h.answered r (by simp [hr]), h.opened, h.behind,
          ?_, ?_⟩
        · simpa [State.lineFreed, answerSent, isResponse] using hresponses
        · simpa [State.lineFreed, answerSent, isResponse] using hbusies
    | busy =>
      refine ⟨done, h.queue, h.answered, h.opened, h.behind, ?_, ?_⟩
      · simpa [State.lineFreed, answerSent, isResponse] using hresponses
      · have hbusies : s.trunk.ready.countP (fun a => !isResponse a) + 1 = s.trunk.busy.length := by
          simpa [isResponse] using hbusies
        simp [State.lineFreed, answerSent, ← hbusies]
  | attention | batch =>
    refine ⟨done, h.queue, h.answered, h.opened, h.behind, ?_, ?_⟩
    · simpa [State.lineFreed, answerSent, hf] using hresponses
    · simpa [State.lineFreed, answerSent, hf] using hbusies

/-- A response that is ready is that of the request at the queue's head (R166, R171). -/
theorem Asks.head_answered (h : Asks done asked s) (hr : AnswerSource.response ∈ s.trunk.ready) :
    ∃ q more r, s.trunk.queue = q :: more ∧ q.condition = .answered r := by
  have hpos : 0 < (answerSent s ++ s.trunk.ready).countP isResponse :=
    List.countP_pos_iff.2 ⟨_, List.mem_append_right _ hr, rfl⟩
  cases done with
  | nil => simp [h.responses] at hpos
  | cons q done =>
    have hq : isAnswered q = true := h.answered q (by simp)
    cases hc : q.condition with
    | answered r => exact ⟨q, done ++ asked, r, h.queue, hc⟩
    | waiting => simp [isAnswered, hc] at hq
    | taken => simp [isAnswered, hc] at hq

theorem Asks.busy_of_ready (h : Asks done asked s) (hr : AnswerSource.busy ∈ s.trunk.ready) :
    ∃ b more, s.trunk.busy = b :: more := by
  have hpos : 0 < (answerSent s ++ s.trunk.ready).countP (fun a => !isResponse a) :=
    List.countP_pos_iff.2 ⟨_, List.mem_append_right _ hr, rfl⟩
  cases hb : s.trunk.busy with
  | nil => simp [h.busies, hb] at hpos
  | cons b more => exact ⟨b, more, rfl⟩

theorem State.beginAnswer_response {q : Request} {more : List Request} {r : List Byte}
    (rest : List AnswerSource) (hqueue : s.trunk.queue = q :: more) (hq : q.condition = .answered r) :
    s.beginAnswer .response rest = { s with trunk := { s.trunk with
      ready := rest, sending := some { source := .answer .response, kind := 2#8, tag := q.tag, payload := r } } } := by
  obtain ⟨tag, payload, condition⟩ := q
  cases hq
  simp [State.beginAnswer, hqueue]

theorem State.beginAnswer_busy {b : BusyAnswer} {more : List BusyAnswer} (rest : List AnswerSource)
    (hbusy : s.trunk.busy = b :: more) :
    s.beginAnswer .busy rest = { s with trunk := { s.trunk with
      ready := rest,
      sending := some { source := .answer .busy, kind := 2#8, tag := b.tag, payload := [b.code, 1#8] } } } := by
  simp only [State.beginAnswer, hbusy]
  rfl

/-- While answers and lists agree, a ready answer begins: it becomes the frame being sent. -/
theorem Asks.beginAnswer (h : Asks done asked s) {source : AnswerSource} {ready : List AnswerSource}
    (hready : s.trunk.ready = source :: ready) :
    ∃ f : OutFrame, f.source = .answer source ∧
      s.beginAnswer source ready = { s with trunk := { s.trunk with ready := ready, sending := some f } } := by
  cases source with
  | response =>
    obtain ⟨q, more, r, hqueue, hq⟩ := h.head_answered (by simp [hready])
    exact ⟨_, rfl, State.beginAnswer_response ready hqueue hq⟩
  | busy =>
    obtain ⟨b, more, hbusy⟩ := h.busy_of_ready (by simp [hready])
    exact ⟨_, rfl, State.beginAnswer_busy ready hbusy⟩

theorem Asks.transmit (h : Asks done asked s) : Asks done asked s.transmit := by
  rcases State.transmit_cases s with ⟨heq, -⟩ | ⟨hidle, -, heq⟩ | ⟨hidle, -, source, ready, hready, heq⟩ |
    ⟨hidle, -, -, -, heq⟩
  · rwa [heq]
  · rw [heq]
    refine ⟨h.queue, h.answered, h.opened, h.behind, ?_, ?_⟩
    · simpa [State.beginAttention, answerSent, hidle] using h.responses
    · simpa [State.beginAttention, answerSent, hidle] using h.busies
  · obtain ⟨f, hsource, hbegin⟩ := h.beginAnswer hready
    have hresponses := h.responses
    have hbusies := h.busies
    obtain ⟨source', kind, tag, payload⟩ := f
    cases hsource
    rw [heq, hbegin]
    refine ⟨h.queue, h.answered, h.opened, h.behind, ?_, ?_⟩
    · simpa [answerSent, hidle, hready] using hresponses
    · simpa [answerSent, hidle, hready] using hbusies
  · rw [heq]
    refine ⟨h.queue, h.answered, h.opened, h.behind, ?_, ?_⟩
    · simpa [State.beginBatch, answerSent, hidle] using h.responses
    · simpa [State.beginBatch, answerSent, hidle] using h.busies

/-- After the transmitter an idle line leaves nothing that could be sent. -/
theorem Asks.lineBusyOrNothing (h : Asks done asked s) : LineBusyOrNothing s.transmit := by
  intro hidle
  rcases State.transmit_cases s with ⟨heq, hcase⟩ | ⟨-, -, heq⟩ | ⟨-, -, source, ready, hready, heq⟩ | ⟨-, -, -, -, heq⟩
  · rw [heq] at hidle ⊢
    rcases hcase with hbusy | hnothing
    · simp [hidle] at hbusy
    · exact hnothing
  · simp [heq, State.beginAttention] at hidle
  · obtain ⟨f, -, hbegin⟩ := h.beginAnswer hready
    simp [heq, hbegin] at hidle
  · simp [heq, State.beginBatch] at hidle

/-! ## What the transmitter begins (R171, R172, R173, R182) -/

theorem State.transmit_sending {f : OutFrame} (h : s.trunk.sending = some f) : s.transmit = s := by
  simp [State.transmit, h]

theorem State.transmit_attention (hidle : s.trunk.sending = none) (h : s.trunk.attention = .pending) :
    s.transmit = s.beginAttention := by simp [State.transmit, hidle, h]

theorem State.transmit_ready {source : AnswerSource} {ready : List AnswerSource} (hidle : s.trunk.sending = none)
    (hattention : s.trunk.attention ≠ .pending) (hready : s.trunk.ready = source :: ready) :
    s.transmit = s.beginAnswer source ready := by
  cases ha : s.trunk.attention <;> simp_all [State.transmit]

theorem State.transmit_reports (hidle : s.trunk.sending = none) (hattention : s.trunk.attention ≠ .pending)
    (hready : s.trunk.ready = []) : s.transmit = if s.reports.calls then s.beginBatch else s := by
  cases ha : s.trunk.attention <;> simp_all [State.transmit]

/-- Settles O12: the cases of the transmitter, and the idle line after it. -/
theorem transmitterOrder : Obligations.TransmitterOrder := by
  intro s
  refine ⟨fun f => State.transmit_sending, State.transmit_attention, fun hidle hattention => ⟨?_, ?_, ?_, ?_⟩, ?_⟩
  · intro r rest q more hready hqueue hq
    rw [State.transmit_ready hidle hattention hready, State.beginAnswer_response rest hqueue hq]
  · intro rest b more hready hbusy
    rw [State.transmit_ready hidle hattention hready, State.beginAnswer_busy rest hbusy]
  · intro hready hpaused hcalls
    rw [State.transmit_reports hidle hattention hready, if_pos (by simpa [ReportQueue.calls, hpaused] using hcalls)]
  · intro hready hcalls
    rw [State.transmit_reports hidle hattention hready, if_neg ?_]
    rcases hcalls with hpaused | ⟨hfew, hdwell⟩
    · simp [ReportQueue.calls, hpaused]
    · simp [ReportQueue.calls, hdwell, Nat.not_le.2 hfew]
  · intro hordered hready
    obtain ⟨done, asked, h⟩ := asks_iff.1 ⟨hordered, hready⟩
    exact h.lineBusyOrNothing

end Sys2Proof.Machine

/-! What the trunk's request side promises, move by move (R166 to R173, R178). -/

namespace Sys2Proof.Machine

open Sys2Proof.Safety

variable {s t : State} {done asked rest : List Request} {x : Request}

/-! ## Bounds (R166, R178) -/

theorem QueuesBounded.of_same {u : State} (h : QueuesBounded t) (hqueue : u.trunk.queue = t.trunk.queue)
    (hbusy : u.trunk.busy = t.trunk.busy) (hreports : u.reports = t.reports) : QueuesBounded u := by
  rw [QueuesBounded, hqueue, hbusy, hreports]
  exact h

theorem QueuesBounded.append (h : QueuesBounded t) (body : RecordBody) : QueuesBounded (t.append body) := by
  obtain ⟨hqueue, hbusy, hrecords, hwithheld⟩ := h
  obtain ⟨hq, hb, -⟩ := State.append_trunk t body
  refine ⟨hq ▸ hqueue, hb ▸ hbusy, ?_, ?_⟩
  · rw [State.append_records]
    split
    · next hroom => simpa using hroom
    · simpa using hrecords
  · rw [State.append_withheld]
    split
    · exact hwithheld
    · exact satInc_le _

theorem QueuesBounded.answer (h : QueuesBounded t) (result : Result) (results : List Byte) :
    QueuesBounded (t.answer result results) :=
  ⟨by simpa [State.answer, setOldest_length] using h.1, h.2⟩

theorem QueuesBounded.taken (h : QueuesBounded t) : QueuesBounded (Served.begun t).finish :=
  ⟨by simpa [Served.finish, setOldest_length] using h.1, h.2⟩

theorem QueuesBounded.offer (h : QueuesBounded t) (tag : Byte) (payload : List Byte) :
    QueuesBounded (t.offerRequest tag payload) := by
  obtain ⟨hqueue, hbusy, hreports⟩ := h
  unfold State.offerRequest
  split
  · next hroom => exact ⟨by simpa using hroom, hbusy, hreports⟩
  · split
    · next hroom => exact ⟨hqueue, by simpa using hroom, hreports⟩
    · exact ⟨hqueue, hbusy, hreports⟩

theorem QueuesBounded.freed (h : QueuesBounded t) (source : FrameSource) : QueuesBounded (t.lineFreed source) := by
  obtain ⟨hqueue, hbusy, hreports⟩ := h
  unfold State.lineFreed
  split
  · exact ⟨by simpa using Nat.le_trans hqueue (Nat.le_succ _), hbusy, hreports⟩
  · exact ⟨hqueue, by simpa using Nat.le_trans hbusy (Nat.le_succ _), hreports⟩
  · exact ⟨hqueue, hbusy, hreports⟩

theorem QueuesBounded.transmit (h : QueuesBounded t) : QueuesBounded t.transmit := by
  obtain ⟨hqueue, hbusy, hrecords, hwithheld⟩ := h
  rcases State.transmit_cases t with ⟨heq, -⟩ | ⟨-, -, heq⟩ | ⟨-, -, source, ready, -, heq⟩ | ⟨-, -, -, -, heq⟩ <;> rw [heq]
  · exact ⟨hqueue, hbusy, hrecords, hwithheld⟩
  · exact ⟨hqueue, hbusy, hrecords, hwithheld⟩
  · have hframe : (t.beginAnswer source ready).trunk.queue = t.trunk.queue ∧
        (t.beginAnswer source ready).trunk.busy = t.trunk.busy ∧ (t.beginAnswer source ready).reports = t.reports := by
      cases source <;> simp only [State.beginAnswer] <;> split <;> exact ⟨rfl, rfl, rfl⟩
    obtain ⟨hq, hb, hr⟩ := hframe
    exact QueuesBounded.of_same ⟨hqueue, hbusy, hrecords, hwithheld⟩ hq hb hr
  · refine ⟨hqueue, hbusy, ?_, Nat.zero_le _⟩
    simp only [State.beginBatch, List.length_drop]
    omega

theorem completeCheck_eq (s : State) (x : LoadTransaction) (sig : Signature) :
    ∃ b result results,
      s.completeCheck x sig = ({ s.setBanks x.table b with load := none } : State).answer result results := by
  unfold State.completeCheck
  extract_lets b computed close
  split
  · exact ⟨_, _, _, rfl⟩
  · split <;> exact ⟨_, _, _, rfl⟩

theorem State.setBanks_eq (s : State) (k : TableId) (b : Banks) :
    (s.setBanks k b).trunk = s.trunk ∧ (s.setBanks k b).reports = s.reports ∧ (s.setBanks k b).clock = s.clock := by
  cases k <;> exact ⟨rfl, rfl, rfl⟩

theorem State.lock_frame (s : State) (l : Lane.Index) (sub : Subject) :
    (s.lock l sub).trunk = s.trunk ∧ (s.lock l sub).reports = s.reports ∧ (s.lock l sub).load = s.load ∧
      (s.lock l sub).clock = s.clock := by
  unfold State.lock
  split <;> exact ⟨rfl, rfl, rfl, rfl⟩

/-- The request queue, the BUSY answers and the report queue stay within their capacities. -/
theorem QueuesBounded.of_work {P : Phase} (h : Work s P t) (hs : QueuesBounded s) : QueuesBounded t := by
  induction h with
  | append body _ ih => exact QueuesBounded.append ih body
  | offer tag payload _ ih => exact QueuesBounded.offer ih tag payload
  | answer result results _ ih => exact QueuesBounded.answer ih result results
  | @freed φ b a t f _ _ ih => exact QueuesBounded.freed ih f.source
  | transmit _ ih => exact QueuesBounded.transmit ih
  | checkBegun _ _ _ _ ih => exact QueuesBounded.taken (QueuesBounded.of_same ih (by simp) (by simp) (by simp))
  | @checkDone _ _ _ t x sig _ _ _ ih =>
    obtain ⟨b, result, results, heq⟩ := completeCheck_eq t x sig
    rw [heq]
    exact QueuesBounded.answer (QueuesBounded.of_same ih (by simp) (by simp) (by simp)) result results
  | openingBegun _ _ _ _ ih => exact QueuesBounded.taken (QueuesBounded.of_same ih rfl rfl rfl)
  | @openingDone φ b a t d time former _ _ ih =>
    have hkept : QueuesBounded { t with
        passes := openPasses t.passes d, clock := { t.clock with dayState := .dayOpen d } } := ih
    simp only [State.completeOpening]
    exact QueuesBounded.answer (QueuesBounded.append hkept _) _ _
  | place _ _ _ ih =>
    obtain ⟨htrunk, hreports, -⟩ := State.lock_frame _ _ _
    exact QueuesBounded.of_same ih (by rw [State.modLane_trunk, htrunk]) (by rw [State.modLane_trunk, htrunk]) (by
      rw [State.modLane_reports, hreports])
  | reports q _ hr hw ih => exact ⟨ih.1, ih.2.1, by rw [hr]; exact ih.2.2.1, by rw [hw]; exact ih.2.2.2⟩
  | loadBegun _ _ _ _ _ _ ih => exact QueuesBounded.of_same ih (by simp) (by simp) (by simp)
  | blockWritten _ _ _ _ ih =>
    exact QueuesBounded.of_same ih (by simp [State.writeBlock]) (by simp [State.writeBlock]) (by simp [State.writeBlock])
  | loadAborted _ _ ih => exact QueuesBounded.of_same ih (by simp) (by simp) (by simp)
  | activated _ _ _ _ ih => exact QueuesBounded.of_same ih (by simp) (by simp) (by simp)
  | coldStart => exact (by decide : 0 ≤ 4 ∧ 0 ≤ 8 ∧ 0 ≤ 256 ∧ 0 ≤ 65535)
  | warmStart => exact (by decide : 0 ≤ 4 ∧ 0 ≤ 8 ∧ 0 ≤ 256 ∧ 0 ≤ 65535)
  | start => exact hs
  | _ => exact QueuesBounded.of_same (by assumption) rfl rfl rfl

/-! ## Attention (R173) -/

theorem attentionSound_of_same {u : State} (h : AttentionSound t) (hattention : u.trunk.attention = t.trunk.attention)
    (hcauses : u.trunk.causes = t.trunk.causes) : AttentionSound u := by
  rw [AttentionSound, hattention, hcauses]
  exact h

theorem attentionSound_raise {f : CauseSet → CauseSet} (hf : ∀ c, f c ≠ CauseSet.empty) :
    AttentionSound (t.raise f) := by
  simp only [AttentionSound, State.raise, hf, iff_false]
  cases t.trunk.attention <;> simp

theorem attentionSound_append (h : AttentionSound t) (body : RecordBody) : AttentionSound (t.append body) := by
  simp only [State.append]
  split
  · split
    · exact attentionSound_raise fun c hc => by cases congrArg CauseSet.reportBacklog hc
    · exact h
  · exact attentionSound_raise fun c hc => by cases congrArg CauseSet.reportOverflow hc

theorem attentionSound_transmit (h : AttentionSound t) : AttentionSound t.transmit := by
  rcases State.transmit_cases t with ⟨heq, -⟩ | ⟨-, hpending, heq⟩ | ⟨-, -, source, ready, -, heq⟩ | ⟨-, -, -, -, heq⟩ <;>
    rw [heq]
  · exact h
  · have hne : t.trunk.causes ≠ CauseSet.empty := fun hempty => by
      have hquiet := h.2 hempty
      rw [hpending] at hquiet
      cases hquiet
    simp [AttentionSound, State.beginAttention, hne]
  · cases source <;> simp only [State.beginAnswer] <;> split <;> exact h
  · exact h

/-- The attention state is QUIET exactly while no cause stands. -/
theorem attentionSound_of_work {P : Phase} (h : Work s P t) (hs : AttentionSound s) : AttentionSound t := by
  induction h with
  | append body _ ih => exact attentionSound_append ih body
  | raise f _ hf ih => exact attentionSound_raise hf
  | transmit _ ih => exact attentionSound_transmit ih
  | quieten => exact iff_of_true rfl rfl
  | checkBegun _ _ _ _ ih => exact attentionSound_of_same ih (by simp [Served.finish]) (by simp [Served.finish])
  | @checkDone _ _ _ t x sig _ _ _ ih =>
    obtain ⟨b, result, results, heq⟩ := completeCheck_eq t x sig
    rw [heq]
    exact attentionSound_of_same ih (by simp [State.answer]) (by simp [State.answer])
  | @openingDone φ b a t d time former _ _ ih =>
    have hkept : AttentionSound { t with
        passes := openPasses t.passes d, clock := { t.clock with dayState := .dayOpen d } } := ih
    simp only [State.completeOpening]
    exact attentionSound_append hkept _
  | place _ _ _ ih =>
    obtain ⟨htrunk, -⟩ := State.lock_frame _ _ _
    exact attentionSound_of_same ih (by rw [State.modLane_trunk, htrunk]) (by rw [State.modLane_trunk, htrunk])
  | @offer _ _ _ t tag payload _ ih =>
    unfold State.offerRequest
    split
    · exact ih
    · split <;> exact ih
  | @freed φ b a t f _ _ ih =>
    unfold State.lineFreed
    split <;> exact ih
  | loadBegun _ _ _ _ _ _ ih => exact attentionSound_of_same ih (by simp) (by simp)
  | blockWritten _ _ _ _ ih =>
    exact attentionSound_of_same ih (by simp [State.writeBlock]) (by simp [State.writeBlock])
  | loadAborted _ _ ih => exact attentionSound_of_same ih (by simp) (by simp)
  | activated _ _ _ _ ih => exact attentionSound_of_same ih (by simp) (by simp)
  | coldStart =>
    exact (by decide : Trunk.reset.attention = .quiet ↔ Trunk.reset.causes = CauseSet.empty)
  | warmStart =>
    exact (by decide : Trunk.warmStart.attention = .quiet ↔ Trunk.warmStart.causes = CauseSet.empty)
  | start => exact hs
  | _ => exact attentionSound_of_same (by assumption) rfl rfl

/-! ## What is in progress (R169) -/

/-- The first open request is taken exactly while a signature check or a day opening is in progress, and not both are. -/
def Progress (asked : List Request) (s : State) : Prop :=
  ((checking s || openingDay s) = (asked.head?.map Request.condition == some .taken)) ∧
    (checking s && openingDay s) = false

/-- The request side: the queue in its parts, what is in progress, and an open request that waits when one has been asked
for. -/
def RequestsSound (a : Bool) (s : State) : Prop :=
  ∃ done asked, Asks done asked s ∧ Progress asked s ∧
    (a = true → ∃ x rest, asked = x :: rest ∧ x.condition = .waiting)

theorem requestsSound_iff : QueueOrdered s ∧ AnswersReady s ∧ TakenInProgress s ↔ RequestsSound false s := by
  constructor
  · rintro ⟨hordered, hready, htaken⟩
    obtain ⟨done, asked, h⟩ := asks_iff.1 ⟨hordered, hready⟩
    rw [TakenInProgress, h.dropWhile_eq] at htaken
    exact ⟨done, asked, h, htaken, fun ha => by cases ha⟩
  · rintro ⟨done, asked, h, htaken, -⟩
    obtain ⟨hordered, hready⟩ := asks_iff.2 ⟨done, asked, h⟩
    refine ⟨hordered, hready, ?_⟩
    rw [TakenInProgress, h.dropWhile_eq]
    exact htaken

theorem Progress.of_same (h : Progress asked s) (hchecking : checking t = checking s)
    (hopening : openingDay t = openingDay s) : Progress asked t := by
  rw [Progress, hchecking, hopening]
  exact h

theorem openingDay_congr (h : t.clock.dayState = s.clock.dayState) : openingDay t = openingDay s := by
  simp only [openingDay, h]

theorem checking_congr (h : t.load = s.load) : checking t = checking s := by simp only [checking, h]

/-- Where the first open request waits, nothing is in progress. -/
theorem Progress.none_of_waiting (h : Progress (x :: rest) s) (hx : x.condition = .waiting) :
    checking s = false ∧ openingDay s = false := by
  have hhead := h.1
  rw [List.head?_cons, Option.map_some, hx] at hhead
  exact Bool.or_eq_false_iff.1 (hhead.trans rfl)

/-- Where something is in progress, the first open request is taken. -/
theorem Progress.head_of_busy (h : Progress asked s) (hbusy : (checking s || openingDay s) = true) :
    ∃ x rest, asked = x :: rest := by
  cases hasked : asked with
  | nil => simp [Progress, hbusy, hasked] at h
  | cons x rest => exact ⟨x, rest, rfl⟩

/-- Nothing in progress, and no open request, or a first one that waits. -/
theorem progress_of_idle (hbehind : ∀ r ∈ rest, r.condition = .waiting) (hchecking : checking s = false)
    (hopening : openingDay s = false) : Progress rest s := by
  refine ⟨?_, by simp [hchecking]⟩
  rw [hchecking, hopening]
  cases rest with
  | nil => rfl
  | cons y rest => simp [hbehind y (by simp)]

/-- A request that is answered leaves nothing in progress. -/
theorem RequestsSound.answer {u : State} (h : Asks done (x :: rest) u) (hchecking : checking u = false)
    (hopening : openingDay u = false) (result : Result) (results : List Byte) :
    RequestsSound false (u.answer result results) := by
  obtain ⟨y, hy⟩ := h.answer result results
  exact ⟨_, _, hy, progress_of_idle h.behind hchecking hopening, fun ha => by cases ha⟩

/-- A request that is taken starts what takes time. -/
theorem RequestsSound.take {u : State} (h : Asks done (x :: rest) u) (hbusy : (checking u || openingDay u) = true)
    (hone : (checking u && openingDay u) = false) : RequestsSound false (Served.begun u).finish :=
  ⟨_, _, h.take, ⟨hbusy, hone⟩, fun ha => by cases ha⟩

/-- A change that touches neither the queue, the answers and the line, nor what is in progress. -/
theorem RequestsSound.of_frame {a : Bool} (h : RequestsSound a s) (hqueue : t.trunk.queue = s.trunk.queue)
    (hbusy : t.trunk.busy = s.trunk.busy) (hready : t.trunk.ready = s.trunk.ready)
    (hsending : t.trunk.sending = s.trunk.sending) (hchecking : checking t = checking s)
    (hopening : openingDay t = openingDay s) : RequestsSound a t := by
  obtain ⟨done, asked, hasks, hprogress, hwaiting⟩ := h
  exact ⟨done, asked, hasks.of_same hqueue hbusy hready hsending, hprogress.of_same hchecking hopening, hwaiting⟩

theorem RequestsSound.of_trunk {a : Bool} (h : RequestsSound a s) (htrunk : t.trunk = s.trunk)
    (hchecking : checking t = checking s) (hopening : openingDay t = openingDay s) : RequestsSound a t :=
  h.of_frame (by rw [htrunk]) (by rw [htrunk]) (by rw [htrunk]) (by rw [htrunk]) hchecking hopening

theorem RequestsSound.append {a : Bool} (h : RequestsSound a s) (body : RecordBody) :
    RequestsSound a (s.append body) := by
  obtain ⟨hqueue, hbusy, hready, hsending, -⟩ := State.append_trunk s body
  exact h.of_frame hqueue hbusy hready hsending (checking_congr (by simp)) (openingDay_congr (by simp))

/-- Nothing queued, nothing to send, nothing in progress. -/
theorem requestsSound_of_empty (hqueue : s.trunk.queue = []) (hbusy : s.trunk.busy = []) (hready : s.trunk.ready = [])
    (hsending : s.trunk.sending = none) (hchecking : checking s = false) (hopening : openingDay s = false) :
    RequestsSound false s := by
  refine ⟨[], [], ⟨hqueue, by simp, by simp, by simp, ?_, ?_⟩, progress_of_idle (by simp) hchecking hopening,
    fun ha => by cases ha⟩
  · simp [answerSent, hready, hsending]
  · simp [answerSent, hready, hsending, hbusy]

theorem checking_eq {x : LoadTransaction} (h : s.load = some x) : checking s = x.expected.isSome := by
  simp only [checking, h]

theorem RequestsSound.weaken {a : Bool} (h : RequestsSound a s) : RequestsSound false s := by
  obtain ⟨done, asked, hasks, hprogress, -⟩ := h
  exact ⟨done, asked, hasks, hprogress, fun ha => by cases ha⟩

theorem RequestsSound.checkBegun {y : LoadTransaction} (h : RequestsSound true s) (sig : Signature) :
    RequestsSound false (Served.begun
      { s.setBanks y.table { s.banks y.table with shadowState := .checking } with
        load := some { y with expected := some sig } }).finish := by
  obtain ⟨done, asked, hasks, hprogress, hwaiting⟩ := h
  obtain ⟨x, rest, rfl, hx⟩ := hwaiting rfl
  obtain ⟨-, hopening⟩ := hprogress.none_of_waiting hx
  have hopening' : openingDay ({ s.setBanks y.table { s.banks y.table with shadowState := .checking } with
      load := some { y with expected := some sig } } : State) = false := by
    rw [← hopening]
    exact openingDay_congr (by simp)
  refine RequestsSound.take (hasks.of_same (by simp) (by simp) (by simp) (by simp)) ?_ ?_
  · simp [checking_eq]
  · rw [hopening', Bool.and_false]

theorem RequestsSound.checkDone {a : Bool} {y : LoadTransaction} {sig : Signature} (h : RequestsSound a s)
    (hload : s.load = some y) (hy : y.expected = some sig) : RequestsSound false (s.completeCheck y sig) := by
  obtain ⟨done, asked, hasks, hprogress, -⟩ := h
  have hchecking : checking s = true := by rw [checking_eq hload, hy]; rfl
  obtain ⟨x, rest, rfl⟩ := hprogress.head_of_busy (by rw [hchecking, Bool.true_or])
  have hopening : openingDay s = false := by simpa [hchecking] using hprogress.2
  obtain ⟨b, result, results, heq⟩ := completeCheck_eq s y sig
  rw [heq]
  refine RequestsSound.answer (hasks.of_same (by simp) (by simp) (by simp) (by simp)) rfl ?_ _ _
  rw [← hopening]
  exact openingDay_congr (by simp)

theorem RequestsSound.openingBegun {d time : Nat} {former : Option Nat} (h : RequestsSound true s) :
    RequestsSound false (Served.begun (s.acceptOpening d time former)).finish := by
  obtain ⟨done, asked, hasks, hprogress, hwaiting⟩ := h
  obtain ⟨x, rest, rfl, hx⟩ := hwaiting rfl
  obtain ⟨hchecking, -⟩ := hprogress.none_of_waiting hx
  have hchecking' : checking (s.acceptOpening d time former) = false := hchecking
  refine RequestsSound.take (hasks.of_same rfl rfl rfl rfl) ?_ ?_
  · rw [hchecking']
    rfl
  · rw [hchecking', Bool.false_and]

theorem RequestsSound.openingDone {a : Bool} {d time : Nat} {former : Option Nat} (h : RequestsSound a s)
    (hd : s.clock.dayState = .opening d time former) : RequestsSound false (s.completeOpening d time) := by
  obtain ⟨done, asked, hasks, hprogress, -⟩ := h
  have hopening : openingDay s = true := by simp [openingDay, hd]
  obtain ⟨x, rest, rfl⟩ := hprogress.head_of_busy (by rw [hopening, Bool.or_true])
  have hchecking : checking s = false := by simpa [hopening] using hprogress.2
  simp only [State.completeOpening]
  obtain ⟨hqueue, hbusy, hready, hsending, -⟩ := State.append_trunk
    { s with passes := openPasses s.passes d, clock := { s.clock with dayState := .dayOpen d } }
    (.dayOpened d (s.passes.length - (openPasses s.passes d).length))
  refine RequestsSound.answer (hasks.of_same hqueue hbusy hready hsending) ?_ ?_ _ _
  · rw [← hchecking]
    exact checking_congr (by simp)
  · simp [openingDay]

theorem RequestsSound.offer {a : Bool} (h : RequestsSound a s) (tag : Byte) (payload : List Byte) :
    RequestsSound false (s.offerRequest tag payload) := by
  obtain ⟨done, asked, hasks, hprogress, -⟩ := h
  have hsame : checking (s.offerRequest tag payload) = checking s ∧
      openingDay (s.offerRequest tag payload) = openingDay s := by
    unfold State.offerRequest
    split
    · exact ⟨rfl, rfl⟩
    · split <;> exact ⟨rfl, rfl⟩
  obtain ⟨hchecking, hopening⟩ := hsame
  rcases hasks.offer tag payload with hasks | hasks
  · exact ⟨done, asked, hasks, hprogress.of_same hchecking hopening, fun ha => by cases ha⟩
  · refine ⟨done, _, hasks, ?_, fun ha => by cases ha⟩
    refine Progress.of_same (s := s) ⟨?_, hprogress.2⟩ hchecking hopening
    rw [hprogress.1]
    cases asked <;> rfl

/-- The request side stays sound, move by move. -/
theorem RequestsSound.of_work {P : Phase} (h : Work s P t) (hs : RequestsSound false s) : RequestsSound P.asked t := by
  induction h with
  | start => exact hs
  | append body _ ih => exact ih.append body
  | raise _ _ _ ih => exact ih.of_frame rfl rfl rfl rfl rfl rfl
  | quieten _ ih => exact ih.of_frame rfl rfl rfl rfl rfl rfl
  | resetting _ ih => exact ih.of_frame rfl rfl rfl rfl rfl rfl
  | receiver _ _ ih => exact ih.of_frame rfl rfl rfl rfl rfl rfl
  | place _ _ _ ih =>
    obtain ⟨htrunk, -, hload, hclock⟩ := State.lock_frame _ _ _
    exact ih.of_trunk (by rw [State.modLane_trunk, htrunk]) (checking_congr (by rw [State.modLane_load, hload]))
      (openingDay_congr (by rw [State.modLane_clock, hclock]))
  | loadBegun _ _ _ _ _ hload ih =>
    exact ih.of_trunk (by simp) (by rw [checking_eq rfl]; simp [checking, hload]) (openingDay_congr (by simp))
  | @blockWritten _ _ _ t x entries _ hload _ ih =>
    exact ih.of_trunk (by simp [State.writeBlock])
      (by simp [checking, hload, State.writeBlock]) (openingDay_congr (by simp [State.writeBlock]))
  | @loadAborted φ b t x _ hload ih =>
    obtain ⟨done, asked, hasks, hprogress, hwaiting⟩ := ih
    obtain ⟨y, rest, rfl, hy⟩ := hwaiting rfl
    obtain ⟨-, hopening⟩ := hprogress.none_of_waiting hy
    refine ⟨done, y :: rest, hasks.of_same (by simp) (by simp) (by simp) (by simp), ?_, hwaiting⟩
    refine progress_of_idle (fun r hr => ?_) rfl (by rw [← hopening]; exact openingDay_congr (by simp))
    rcases List.mem_cons.1 hr with rfl | hr
    · exact hy
    · exact hasks.behind r hr
  | activated _ _ _ _ ih => exact ih.of_trunk (by simp) (checking_congr (by simp)) (openingDay_congr (by simp))
  | checkBegun sig _ _ _ ih => exact RequestsSound.checkBegun ih sig
  | checkDone _ hload hx ih => exact ih.checkDone hload hx
  | openingBegun _ _ _ _ ih => exact RequestsSound.openingBegun ih
  | openingDone _ hd ih => exact ih.openingDone hd
  | dayClosed _ hd _ ih => exact ih.of_trunk rfl rfl (by simp [openingDay, hd])
  | offer tag payload _ ih => exact ih.offer tag payload
  | ask _ hq ih =>
    obtain ⟨done, asked, hasks, hprogress, -⟩ := ih
    exact ⟨done, asked, hasks, hprogress, fun _ => hasks.head_of_oldestWaiting hq⟩
  | answer result results _ ih =>
    obtain ⟨done, asked, hasks, hprogress, hwaiting⟩ := ih
    obtain ⟨y, rest, rfl, hy⟩ := hwaiting rfl
    obtain ⟨hchecking, hopening⟩ := hprogress.none_of_waiting hy
    exact RequestsSound.answer hasks hchecking hopening result results
  | @freed φ b a t f _ hf ih =>
    obtain ⟨done, asked, hasks, hprogress, -⟩ := ih
    obtain ⟨done', hasks'⟩ := hasks.freed hf
    refine ⟨done', asked, hasks', hprogress.of_same ?_ ?_, fun ha => by cases ha⟩ <;>
      (unfold State.lineFreed; split <;> rfl)
  | transmit _ ih =>
    obtain ⟨done, asked, hasks, hprogress, hwaiting⟩ := ih
    exact ⟨done, asked, hasks.transmit,
      hprogress.of_same (checking_congr (by simp)) (openingDay_congr (by simp)), hwaiting⟩
  | coldStart => exact requestsSound_of_empty rfl rfl rfl rfl rfl rfl
  | @warmStart φ b a t _ _ =>
    refine requestsSound_of_empty rfl rfl rfl rfl rfl ?_
    have hday : t.warmStart.clock.dayState = t.clock.dayState.warmStart := rfl
    simp only [openingDay, hday]
    cases hd : t.clock.dayState with
    | opening d time former => cases former <;> rfl
    | _ => rfl
  | _ =>
    rename_i ih
    exact RequestsSound.of_trunk ih rfl rfl rfl

/-- Wherever the transmitter has run last, an idle line leaves nothing waiting. -/
theorem lineBusyOrNothing_of_work {P : Phase} (h : Work s P t) (hrequests : RequestsSound false s)
    (hs : LineBusyOrNothing s) : P.sent = true → LineBusyOrNothing t := by
  induction h with
  | start => exact fun _ => hs
  | receiver _ _ ih => exact ih
  | ask _ _ ih => exact ih
  | advance _ _ ih => exact ih
  | transmit hwork _ =>
    obtain ⟨done, asked, hasks, -⟩ := RequestsSound.of_work hwork hrequests
    exact fun _ => hasks.lineBusyOrNothing
  | _ => exact fun hsent => by cases hsent

/-- Settles O55: bounds, the request side, the idle line and the attention state, each move by move. -/
theorem stepsKeepTheTrunkSound : Obligations.StepsKeepTheTrunkSound := by
  intro s t ht
  obtain ⟨u, ⟨cs, rfl⟩, hwork⟩ := step_work ht
  refine ⟨fun ⟨hbounded, hrequests⟩ => ?_, fun hs => attentionSound_of_work hwork hs⟩
  have hrequests : RequestsSound false { s with pending := cs } := requestsSound_iff.1 hrequests
  exact ⟨⟨QueuesBounded.of_work hwork hbounded, requestsSound_iff.2 (RequestsSound.of_work hwork hrequests)⟩,
    fun hline => lineBusyOrNothing_of_work hwork hrequests hline rfl⟩

end Sys2Proof.Machine

/-! Bytes and the table lookups written from them (R2 to R5, R11). -/

namespace Sys2Proof.Machine

open Sys2Proof.Safety

/-! ## Numbers from bytes -/

theorem ofBe_append (bs : List Byte) (b : Byte) : ofBe (bs ++ [b]) = 256 * ofBe bs + b.toNat := by
  simp [ofBe]

theorem ofBe_two (a b : Byte) : ofBe [a, b] = 256 * a.toNat + b.toNat := by simp [ofBe]

/-- The number in the bytes of a bank grows by one byte at a time. -/
theorem Memory.readNumber_succ (m : Memory) (a n : Nat) :
    m.readNumber a (n + 1) = 256 * m.readNumber a n + (m.read (a + n)).toNat := by
  rw [Memory.readNumber, Memory.readNumber, Memory.readBytes_eq, Memory.readBytes_eq, List.range_succ, List.map_append,
    List.map_singleton, ofBe_append]

@[simp] theorem Memory.readNumber_zero (m : Memory) (a : Nat) : m.readNumber a 0 = 0 := rfl

theorem Memory.readNumber_eq (m : Memory) (a n : Nat) :
    m.readNumber a n = ofBe ((List.range n).map fun i => m.read (a + i)) := by
  rw [Memory.readNumber, Memory.readBytes_eq]

theorem Memory.readNumber_one (m : Memory) (a : Nat) : m.readNumber a 1 = (m.read a).toNat := by
  simp [Memory.readNumber_succ]

theorem Memory.readNumber_two (m : Memory) (a : Nat) :
    m.readNumber a 2 = 256 * (m.read a).toNat + (m.read (a + 1)).toNat := by
  simp [Memory.readNumber_succ]

/-! ## Products (R2) -/

theorem clampTo_one {high : Nat} (h : 1 ≤ high) (v : Nat) :
    clampTo 1 high v = if v = 0 then 1 else if high < v then high else v := by
  unfold clampTo
  split
  · omega
  · split <;> omega

theorem min_eq_ite (high v : Nat) : min high v = if high < v then high else v := by
  split <;> omega

theorem classOf_eq {v : Nat} (h : v ≤ 2) :
    classOf v = some (if v = 0 then .day else if v = 1 then .multiDay else .season) := by
  have hv : v = 0 ∨ v = 1 ∨ v = 2 := by omega
  rcases hv with rfl | rfl | rfl <;> rfl

theorem classOf_none {v : Nat} (h : 2 < v) : classOf v = none := by
  unfold classOf
  rw [if_neg (by omega), if_neg (by omega), if_neg (by omega)]

theorem lookupProduct_none {m : Memory} {code : Nat}
    (h : 64 ≤ code ∨ (m.read (24 * code)).toNat ≠ 1 ∨ 2 < (m.read (24 * code + 1)).toNat) :
    lookupProduct m code = none := by
  by_cases hbad : 64 ≤ code ∨ productField m code 0 1 ≠ 1
  · rw [lookupProduct, if_pos hbad]
  · have hclass : classOf (productField m code 1 1) = none := by
      refine classOf_none ?_
      simp only [productField, Memory.readNumber_one, Nat.add_zero] at hbad ⊢
      omega
    rw [lookupProduct, if_neg hbad, hclass]

theorem windowAsUsed_eq {v : Nat} (h : v ≤ 2) (stored : Nat) :
    windowAsUsed (if v = 0 then .day else if v = 1 then .multiDay else .season) stored =
      if v = 2 then 208 else if stored = 0 then 1 else if 14 < stored then 14 else stored := by
  have hv : v = 0 ∨ v = 1 ∨ v = 2 := by omega
  rcases hv with rfl | rfl | rfl <;> simp [windowAsUsed, clampTo_one]

theorem stepAsUsed_eq (v : Nat) : stepAsUsed v =
    if v = 1 ∨ v = 5 ∨ v = 10 ∨ v = 25 ∨ v = 50 ∨ v = 100 then v else 1 := by
  simp [stepAsUsed]

theorem lookupProduct_some {m : Memory} {code : Nat} (hcode : code < 64) (hvalid : (m.read (24 * code)).toNat = 1)
    (hclass : (m.read (24 * code + 1)).toNat ≤ 2) :
    let at_ (i : Nat) : Nat := (m.read (24 * code + i)).toNat
    let two (i : Nat) : Nat := 256 * at_ i + at_ (i + 1)
    let upTo (high v : Nat) : Nat := if high < v then high else v
    let season := at_ 1 = 2
    let window := if season then 208 else if at_ 2 = 0 then 1 else upTo 14 (at_ 2)
    lookupProduct m code = some {
      cls := if at_ 1 = 0 then .day else if at_ 1 = 1 then .multiDay else .season,
      window := window, allowed := if at_ 3 = 0 then 1 else upTo window (at_ 3),
      riders := if at_ 4 = 0 then 1 else upTo 6 (at_ 4), rideLimit := upTo 250 (at_ 5), passback := upTo 60 (at_ 6),
      price := upTo 999999 (65536 * two 7 + two 9), refundable := decide (at_ 11 = 1),
      futureRate := upTo 100 (at_ 12), partialRate := upTo 100 (at_ 13), fee := upTo 99999 (256 * two 14 + at_ 16),
      minimum := upTo 99999 (256 * two 17 + at_ 19),
      step := if two 20 = 1 ∨ two 20 = 5 ∨ two 20 = 10 ∨ two 20 = 25 ∨ two 20 = 50 ∨ two 20 = 100 then two 20 else 1,
      lanes := m.read (24 * code + 22), admitUnlisted := decide (at_ 23 = 1) } := by
  intro at_ two upTo season window
  have hwindow : 1 ≤ window := by simp only [window, upTo]; split_ifs <;> omega
  have hentry : ¬(64 ≤ code ∨ productField m code 0 1 ≠ 1) := by
    simp only [productField, Memory.readNumber_one, Nat.add_zero]
    omega
  have hone (i : Nat) : productField m code i 1 = at_ i := Memory.readNumber_one ..
  have htwo (i : Nat) : productField m code i 2 = two i := Memory.readNumber_two ..
  have hthree (i : Nat) : productField m code i 3 = 256 * two i + at_ (i + 2) := by
    rw [productField, Memory.readNumber_succ, Memory.readNumber_two]
    rfl
  have hfour : productField m code 7 4 = 65536 * two 7 + two 9 := by
    rw [productField, Memory.readNumber_succ, Memory.readNumber_succ, Memory.readNumber_two]
    simp only [two, at_, Nat.add_assoc, Nat.reduceAdd]
    omega
  have hused : windowAsUsed (if at_ 1 = 0 then .day else if at_ 1 = 1 then .multiDay else .season) (at_ 2) = window :=
    windowAsUsed_eq hclass (at_ 2)
  rw [lookupProduct, if_neg hentry, hone 1, classOf_eq (v := at_ 1) hclass]
  simp only [hone, htwo, hthree, hfour, hused, stepAsUsed_eq, min_eq_ite, clampTo_one hwindow,
    clampTo_one (by decide : 1 ≤ 6)]
  rfl

/-! ## The hot list (R3, R11) -/

/-- Position `i` of a hot list offends: its serial is not 0, and the one before it is 0 or not less (R11). -/
def Offends (m : Memory) (i : Nat) : Prop :=
  1 ≤ i ∧ i ≤ 1023 ∧ hotSerial m i ≠ 0 ∧ (hotSerial m (i - 1) = 0 ∨ hotSerial m i ≤ hotSerial m (i - 1))

theorem listed_iff {m : Memory} {serial : Nat} :
    listed m serial = true ↔ serial ≠ 0 ∧ ∃ i, i < 1024 ∧ hotSerial m i = serial := by
  simp [listed]

theorem firstOutOfOrder_some {m : Memory} {i : Nat} :
    firstOutOfOrder m = some i ↔ Offends m i ∧ ∀ k, k < i → ¬Offends m k := by
  simp only [firstOutOfOrder, List.find?_range_eq_some, decide_eq_true_eq, Offends, List.mem_range, Bool.not_eq_true',
    decide_eq_false_iff_not]
  constructor
  · rintro ⟨⟨h1, h2, h3⟩, h4, h5⟩
    exact ⟨⟨h1, by omega, h2, h3⟩, fun k hk ⟨h6, _, h7⟩ => h5 k hk ⟨h6, h7⟩⟩
  · rintro ⟨⟨h1, h2, h3, h4⟩, h5⟩
    exact ⟨⟨h1, h3, h4⟩, by omega, fun k hk ⟨h6, h7⟩ => h5 k hk ⟨h6, by omega, h7⟩⟩

theorem firstOutOfOrder_none {m : Memory} : firstOutOfOrder m = none ↔ ∀ i, ¬Offends m i := by
  simp only [firstOutOfOrder, List.find?_eq_none, List.mem_range, decide_eq_true_eq, Offends]
  constructor
  · exact fun h i ⟨h1, h2, h3⟩ => h i (by omega) ⟨h1, h3⟩
  · exact fun h i hi ⟨h1, h2⟩ => h i ⟨h1, by omega, h2⟩

theorem hotListOrdered_iff {m : Memory} : HotListOrdered m ↔ ∀ i, ¬Offends m i := by
  constructor
  · rintro h i ⟨h1, h2, h3, h4⟩
    have hi : i - 1 + 1 = i := by omega
    have horder := h (i - 1) (by omega)
    rw [hi] at horder
    obtain ⟨hne, hlt⟩ := horder h3
    omega
  · intro h i hi hne
    have hnot := h (i + 1)
    simp only [Offends, Nat.add_sub_cancel] at hnot
    omega

theorem firstOutOfOrder_none_iff {m : Memory} : firstOutOfOrder m = none ↔ HotListOrdered m :=
  firstOutOfOrder_none.trans hotListOrdered_iff.symm

/-! ## Days and hours (R4, R5) -/

theorem statusOf_iff (v : Nat) :
    (statusOf v = .isOpen ↔ v = 1) ∧ (statusOf v = .isPartial ↔ v = 2) ∧ (statusOf v = .isClosed ↔ v = 3) := by
  unfold statusOf
  split
  · next h => simp [h]
  · split
    · next h => simp [h]
    · split
      · next h => simp [h]
      · next h1 h2 h3 => simp [h1, h2, h3]

theorem withinHours_same_day {o c : Nat} (h : o < c) (now : Nat) :
    withinHours o c now = true ↔ 60 * o ≤ now ∧ now < 60 * c := by
  simp only [withinHours, h, if_true, decide_eq_true_eq]
  omega

theorem withinHours_wrapped {o c : Nat} (h : c < o) (now : Nat) :
    withinHours o c now = true ↔ 60 * o ≤ now ∨ now < 60 * c := by
  simp only [withinHours, h, Nat.lt_asymm h, if_true, if_false, decide_eq_true_eq]
  omega

/-- Settles O17: each lookup by the fields it reads. -/
theorem tablesLookedUp : Obligations.TablesLookedUp := by
  refine ⟨fun m code => ⟨lookupProduct_none, ?_⟩, fun m => ⟨?_, ?_, ?_⟩, fun m d => ⟨?_, ?_⟩, fun o c now =>
    ⟨fun h => withinHours_same_day h now, fun h => withinHours_wrapped h now, fun h => by simp [withinHours, h]⟩⟩
  · intro hcode hvalid hclass
    simp only [Nat.add_zero] at hvalid
    simp only [← lookupProduct_some hcode hvalid hclass]
  · exact fun serial => by simp only [listed_iff, hotSerial, Memory.readNumber_eq]
  · exact fun i => by simpa only [Offends, hotSerial, Memory.readNumber_eq] using firstOutOfOrder_some (m := m) (i := i)
  · exact firstOutOfOrder_none_iff
  · intro hd
    have hd : ¬d < Config.seasonDays := Nat.not_lt.2 hd
    simp [dayStatus, openingMinute, closingMinute, hd]
  · intro hd
    have hd : d < Config.seasonDays := Nat.lt_succ_of_le hd
    obtain ⟨hopen, hpartial, hclosed⟩ := statusOf_iff (m.readNumber (6 * d) 2)
    simp only [Memory.readNumber_two] at hopen hpartial hclosed
    simp only [dayStatus, openingMinute, closingMinute, if_pos hd, Memory.readNumber_two, min_eq_ite, Nat.add_zero]
    exact ⟨hopen, hpartial, hclosed, trivial, trivial⟩

end Sys2Proof.Machine

/-! The table store's requests, and what every step keeps of the banks (R6 to R17). -/

namespace Sys2Proof.Machine

open Sys2Proof.Safety

variable {s t : State}

/-! ## A request that is answered -/

/-- A request taken is answered as its owner answers it. -/
theorem answers_of_serve {c : Instr} {code : Byte} {f : List Byte → State → Served} {params : List Byte}
    {result : Result} {results : List Byte} (hc : exec c s = .next (s.serve code f)) (h : s.takes code = some params)
    (hf : f params s = .answered t result results) : Answers c s t result results := by
  rw [Answers, hc, State.serve_taken h, hf]
  rfl

theorem answers_of_serveLane {c : Instr} {code n : Byte} {f : Lane.Index → State → Served} {l : Lane.Index}
    {result : Result} {results : List Byte} (hc : exec c s = .next (s.serve code (serveLane f)))
    (h : s.takes code = some [n]) (hl : laneOf n.toNat = some l) (hf : f l s = .answered t result results) :
    Answers c s t result results :=
  answers_of_serve hc h (by simp only [serveLane, hl, hf])

/-! ## Items of a response -/

theorem fields_append (xs ys : List (Nat × Nat)) : fields (xs ++ ys) = fields xs ++ fields ys :=
  List.flatMap_append ..

theorem fields_cons (r : Nat × Nat) (xs : List (Nat × Nat)) : fields (r :: xs) = item r.1 r.2 ++ fields xs := rfl

theorem fields_nil : fields [] = [] := rfl

theorem item_zero (n : Nat) : item n 0 = zeros n := by
  rw [item, if_pos (Nat.pow_pos (by decide))]
  induction n with
  | zero => rfl
  | succ n ih => rw [be, ih, Nat.zero_div]; rfl

theorem item_of_lt {n v : Nat} (h : v < 256 ^ n) : item n v = be n v := if_pos h

theorem item_byte (b : Byte) : item 1 b.toNat = [b] := by
  rw [item_of_lt (by omega)]
  simp [be]

/-- An item that may be absent, as rows. -/
theorem optItem_eq {α : Type} (width : Nat) (o : Option α) (enc : α → List Byte) (rows : α → List (Nat × Nat))
    (h : ∀ a, enc a = fields (rows a)) : optItem width o enc = fields (optRows width (o.map rows)) := by
  cases o with
  | none =>
    simp only [optItem, optRows, Option.map_none, fields_cons, fields_nil, item_zero, List.append_nil]
    rfl
  | some a =>
    simp only [optItem, optRows, Option.map_some, fields_cons, h]
    rfl

theorem signatureItem_eq (sig : Option Signature) : signatureItem sig = fields (signatureRows sig) :=
  optItem_eq 4 sig _ _ fun v => by
    simp only [fields_cons, fields_nil, List.append_nil]
    rw [item_of_lt (by omega)]

theorem ShadowState.code_eq (x : ShadowState) : x.code =
    match x with
    | .empty => 0 | .loading => 1 | .loaded => 2 | .checking => 3 | .verified => 4 | .corrupt => 5 | .stale => 6 := by
  cases x <;> rfl

/-! ## Loads begun, written, checked and given up (R8 to R13) -/

theorem serveLoadBegin_ok {table mode hi lo count : Byte} {k : TableId} {m : LoadMode} (hload : s.load = none)
    (hk : tableOf table = some k) (hm : LoadMode.ofCode mode = some m) (h1 : 1 ≤ count.toNat) (h64 : count.toNat ≤ 64)
    (hfit : 256 * hi.toNat + lo.toNat + 16 * count.toNat ≤ k.capacity) :
    serveLoadBegin [table, mode, hi, lo, count] s = .answered
      { s.setBanks k ((s.banks k).prepared m) with
        load := some { table := k, mode := m, first := 256 * hi.toNat + lo.toNat, count := count.toNat,
                       remaining := count.toNat, expected := none } } .ok [count] := by
  simp only [serveLoadBegin, hload, hk, hm, ofBe_two, item_byte]
  rw [if_pos ⟨h1, h64, hfit⟩]

theorem serveLoadBegin_badValue {table mode hi lo count : Byte} (hload : s.load = none)
    (h : tableOf table = none ∨ LoadMode.ofCode mode = none ∨ ¬(1 ≤ count.toNat ∧ count.toNat ≤ 64) ∨
      ∃ k, tableOf table = some k ∧ k.capacity < 256 * hi.toNat + lo.toNat + 16 * count.toNat) :
    serveLoadBegin [table, mode, hi, lo, count] s = .refuse s .badValue := by
  simp only [serveLoadBegin, hload, ofBe_two]
  cases hk : tableOf table with
  | none => rfl
  | some k =>
    cases hm : LoadMode.ofCode mode with
    | none => rfl
    | some m =>
      simp only []
      rw [if_neg]
      rintro ⟨h1, h64, hfit⟩
      rcases h with h | h | h | ⟨k', hk', hbeyond⟩
      · simp [hk] at h
      · simp [hm] at h
      · exact h ⟨h1, h64⟩
      · rw [hk] at hk'
        cases hk'
        omega

/-- Settles O13: the branches of LOAD_BEGIN in their order, and of LOAD_ABORT. -/
theorem loadsBeginAndAbort : Obligations.LoadsBeginAndAbort := by
  refine fun s => ⟨?_, ?_, ?_⟩
  · intro table mode hi lo count k m h hload hk hm h1 h64 hfit
    exact answers_of_serve rfl h (serveLoadBegin_ok hload hk hm h1 h64 hfit)
  · intro table mode hi lo count h
    refine ⟨fun x hx => answers_of_serve rfl h (by simp only [serveLoadBegin, hx]; rfl), fun hload hbad => ?_⟩
    exact answers_of_serve rfl h (serveLoadBegin_badValue hload hbad)
  · intro h
    refine ⟨fun hload => answers_of_serve rfl h (by simp only [serveLoadAbort, hload]; rfl), fun x hx => ?_⟩
    refine answers_of_serve rfl h ?_
    simp only [serveLoadAbort, hx]
    cases x.table <;> rfl

theorem serveLoadBlock_ok {table : Byte} {entries : List Byte} {k : TableId} {x : LoadTransaction}
    (hk : tableOf table = some k) (hlength : entries.length = 16 * k.entrySize) (hload : s.load = some x)
    (hx : x.table = k) (hremaining : 1 ≤ x.remaining) :
    serveLoadBlock (table :: entries) s = .answered (s.writeBlock x entries) .ok (item 1 (x.remaining - 1)) := by
  simp only [serveLoadBlock, hk, hload, hlength, hx, ne_eq, not_true_eq_false, if_false]
  rw [if_neg (by omega)]

/-- Settles O14: the write of a block, byte by byte. -/
theorem loadBlockWritesItsBlock : Obligations.LoadBlockWritesItsBlock := by
  intro s table entries k x hcanonical h hk hlength hload hx hremaining
  subst hx
  refine ⟨_, answers_of_serve rfl h (serveLoadBlock_ok hk hlength hload rfl hremaining), rfl, rfl, rfl, rfl, ?_⟩
  have hwf : (s.banks x.table).shadow.wf = true := (hcanonical x.table (by cases x.table <;> simp)).2
  intro a
  rw [Memory.read_writeBytes hwf, hlength]

theorem serveLoadEnd_open {table e3 e2 e1 e0 : Byte} {k : TableId} {x : LoadTransaction} (hk : tableOf table = some k)
    (hload : s.load = some x) (hx : x.table = k) : serveLoadEnd [table, e3, e2, e1, e0] s =
      if 1 ≤ x.remaining then .answered s .loadIncomplete (item 1 x.remaining)
      else .begun
        { s.setBanks k { s.banks k with shadowState := .checking } with
          load := some { x with expected := some (BitVec.ofNat 32 (ofBe [e3, e2, e1, e0])) } } := by
  simp only [serveLoadEnd, hk, hload, hx, ne_eq, not_true_eq_false, if_false]

/-- The shadow bank and the load after the check's completion (R11). -/
def State.checked (s : State) (x : LoadTransaction) (sig : Signature) (state : ShadowState) : State :=
  { s.setBanks x.table { s.banks x.table with shadowSig := some sig, shadowState := state } with load := none }

theorem completeCheck_mismatch {x : LoadTransaction} {sig expected : Signature}
    (hsig : signatureOf (x.table.canonical (s.banks x.table).shadow) = sig) (h : sig ≠ expected) :
    s.completeCheck x expected =
      (s.checked x sig .corrupt).answer .signatureMismatch (signatureItem (some sig)) := by
  simp only [State.completeCheck, hsig, if_pos h]
  rfl

theorem completeCheck_disorder {x : LoadTransaction} {sig : Signature} {i : Nat}
    (hsig : signatureOf (x.table.canonical (s.banks x.table).shadow) = sig)
    (h : (if x.table = .hotList then firstOutOfOrder (s.banks x.table).shadow else none) = some i) :
    s.completeCheck x sig =
      (s.checked x sig .corrupt).answer .orderError (signatureItem (some sig) ++ item 2 i) := by
  simp only [State.completeCheck, hsig, ne_eq, not_true_eq_false, if_false, h]
  rfl

theorem completeCheck_ok {x : LoadTransaction} {sig : Signature}
    (hsig : signatureOf (x.table.canonical (s.banks x.table).shadow) = sig)
    (h : (if x.table = .hotList then firstOutOfOrder (s.banks x.table).shadow else none) = none) :
    s.completeCheck x sig = (s.checked x sig .verified).answer .ok (signatureItem (some sig)) := by
  simp only [State.completeCheck, hsig, ne_eq, not_true_eq_false, if_false, h]
  rfl

theorem exec_loadCheckComplete {x : LoadTransaction} {expected : Signature} {u : State} {result : Result}
    {results : List Byte} (hload : s.load = some x) (hx : x.expected = some expected)
    (h : s.completeCheck x expected = u.answer result results) : Answers .loadCheckComplete s u result results := by
  have hexec : exec .loadCheckComplete s = .next (s.completeCheck x expected).transmit := by
    show execLoadCheckComplete s = _
    simp only [execLoadCheckComplete, hload, hx]
  rw [Answers, hexec, h]

/-- Settles O15: LOAD_END by the blocks remaining, and the three outcomes of the check. -/
theorem loadEndAndItsCheck : Obligations.LoadEndAndItsCheck := by
  refine fun s => ⟨?_, ?_⟩
  · intro table e3 e2 e1 e0 k x h hk hload hx
    have hserve := serveLoadEnd_open (e3 := e3) (e2 := e2) (e1 := e1) (e0 := e0) hk hload hx
    refine ⟨fun hremaining => answers_of_serve rfl h (by rw [hserve, if_pos hremaining]), fun hnone => ?_⟩
    rw [if_neg (by omega)] at hserve
    show Host.Outcome.next (s.serve 18#8 serveLoadEnd) = _
    rw [State.serve_taken h, hserve]
    cases k <;> rfl
  · intro x expected hload hx
    refine ⟨fun h => ?_, fun i heq hhot hi => ?_, fun heq hhot => ?_⟩
    · exact exec_loadCheckComplete hload hx (completeCheck_mismatch rfl h)
    · subst heq
      refine exec_loadCheckComplete hload hx (completeCheck_disorder rfl ?_)
      rw [if_pos hhot, hhot]
      exact hi
    · subst heq
      refine exec_loadCheckComplete hload hx (completeCheck_ok rfl ?_)
      split
      · next htable =>
        rw [htable]
        exact hhot htable
      · rfl

/-! ## Activation and reads (R14, R16, R17) -/

theorem loadOpenFor_false {k : TableId} (h : ∀ x, s.load = some x → x.table ≠ k) : s.loadOpenFor k = false := by
  unfold State.loadOpenFor
  cases hload : s.load with
  | none => rfl
  | some x => simpa using h x hload

theorem loadOpenFor_true {k : TableId} {x : LoadTransaction} (hload : s.load = some x) (hx : x.table = k) :
    s.loadOpenFor k = true := by simp [State.loadOpenFor, hload, hx]

theorem ShadowState.activatable_iff {x : ShadowState} : x.activatable = true ↔ x = .verified ∨ x = .stale := by
  cases x <;> simp [ShadowState.activatable]

theorem serveTableRead_eq {table bank block : Byte} {k : TableId} (hk : tableOf table = some k) :
    serveTableRead [table, bank, block] s =
      if bank.toNat ≤ 1 ∧ block.toNat < k.blocks then
        .answered s .ok ((if bank = 0#8 then (s.banks k).active else (s.banks k).shadow).readBytes
          (k.entrySize * (16 * block.toNat)) (16 * k.entrySize))
      else .refuse s .badValue := by
  simp only [serveTableRead, hk]

theorem tableInfo_eq (s : State) (k : TableId) : s.tableInfo k =
    fields ([(1, match (s.banks k).shadowState with
        | .empty => 0 | .loading => 1 | .loaded => 2 | .checking => 3 | .verified => 4 | .corrupt => 5 | .stale => 6),
      (1, s.remainingFor k)] ++ signatureRows (s.banks k).activeSig ++ signatureRows (s.banks k).shadowSig) := by
  simp only [State.tableInfo, fields_append, fields_cons, fields_nil, List.append_nil, signatureItem_eq,
    ShadowState.code_eq]

/-- Settles O16: the branches of TABLE_ACTIVATE and TABLE_READ, and the items of TABLE_INFO. -/
theorem tablesSwappedAndRead : Obligations.TablesSwappedAndRead := by
  refine ⟨fun s table hk h => answers_of_serve rfl h (by simp only [serveTableActivate, hk]; rfl),
    fun s table k hk => ⟨fun h => ⟨fun hother hready => ?_, fun x hload hx => ?_, fun hother hready => ?_⟩,
      fun bank block h => ⟨fun hbank hblock => ?_, fun hbank hblock => ?_, fun hbad => ?_⟩, fun h => ?_⟩⟩
  · refine answers_of_serve rfl h ?_
    simp only [serveTableActivate, hk, loadOpenFor_false hother, ShadowState.activatable_iff.2 hready, signatureItem_eq]
    rfl
  · refine answers_of_serve rfl h ?_
    simp only [serveTableActivate, hk, loadOpenFor_true hload hx]
    rfl
  · have hnot : (s.banks k).shadowState.activatable = false := by
      rw [← Bool.not_eq_true, ShadowState.activatable_iff]
      exact hready
    refine answers_of_serve rfl h ?_
    simp only [serveTableActivate, hk, loadOpenFor_false hother, hnot]
    rfl
  · subst hbank
    refine answers_of_serve rfl h ?_
    rw [serveTableRead_eq hk, if_pos ⟨by decide, hblock⟩, if_pos rfl]
  · subst hbank
    refine answers_of_serve rfl h ?_
    rw [serveTableRead_eq hk, if_pos ⟨by decide, hblock⟩, if_neg (by decide)]
  · refine answers_of_serve rfl h ?_
    rw [serveTableRead_eq hk, if_neg]
    · rfl
    · rintro ⟨hbank, hblock⟩
      rcases hbad with ⟨h0, h1⟩ | hbad
      · have hbank : bank.toNat = 0 ∨ bank.toNat = 1 := by omega
        rcases hbank with hbank | hbank
        · exact h0 (BitVec.eq_of_toNat_eq hbank)
        · exact h1 (BitVec.eq_of_toNat_eq hbank)
      · omega
  · refine answers_of_serve rfl h ?_
    have hload : optItem 5 s.load (fun x => item 1 x.table.code ++ item 1 x.mode.code ++ item 2 x.first ++
        item 1 x.count) = fields (optRows 5 (s.load.map fun x =>
          [(1, match x.table with | .products => 1 | .hotList => 2 | .days => 3),
            (1, match x.mode with | .fresh => 0 | .patch => 1), (2, x.first), (1, x.count)])) :=
      optItem_eq 5 s.load _ _ fun x => by
        cases x.table <;> cases x.mode <;>
          simp only [fields_cons, fields_nil, List.append_nil, List.append_assoc] <;> rfl
    simp only [serveTableInfo, tableInfo_eq, hload, ← fields_append]
    rfl

end Sys2Proof.Machine

/-! What every step keeps of the banks: canonical form, the load's shadow, and what vouches for a bank (R3, R6, R7). -/

namespace Sys2Proof.Machine

open Sys2Proof.Safety

variable {s t : State} {V : TableId → Memory → Option Signature → Prop}

/-! ## One bank (R6) -/

/-- Whether a shadow belongs to an open load (R6, R7). -/
def ShadowState.inLoad : ShadowState → Bool
  | .loading => true
  | .loaded => true
  | .checking => true
  | _ => false

theorem ShadowState.inLoad_iff {x : ShadowState} : x ∈ [ShadowState.loading, .loaded, .checking] ↔ x.inLoad = true := by
  cases x <;> simp [ShadowState.inLoad]

theorem ShadowState.mem_activatable {x : ShadowState} : x ∈ [ShadowState.verified, .stale] ↔ x.activatable = true := by
  cases x <;> simp [ShadowState.activatable]

theorem ShadowState.not_activatable_of_inLoad {x : ShadowState} (h : x.inLoad = true) : x.activatable = false := by
  cases x <;> simp_all [ShadowState.inLoad, ShadowState.activatable]

theorem ShadowState.not_inLoad_of_activatable {x : ShadowState} (h : x.activatable = true) : x.inLoad = false := by
  cases x <;> simp_all [ShadowState.inLoad, ShadowState.activatable]

/-- Both banks in canonical form. -/
def Banks.Canonical (b : Banks) : Prop := b.active.wf = true ∧ b.shadow.wf = true

/-- The active bank is vouched for in the sense of `V`, and so is a shadow that an activation would take. -/
def Banks.Vouched (V : Memory → Option Signature → Prop) (b : Banks) : Prop :=
  V b.active b.activeSig ∧ (b.shadowState.activatable = true → V b.shadow b.shadowSig)

theorem Banks.Canonical.prepared {b : Banks} (h : b.Canonical) (m : LoadMode) : (b.prepared m).Canonical := by
  cases m with
  | fresh => exact ⟨h.1, rfl⟩
  | patch => exact ⟨h.1, h.1⟩

theorem Banks.Canonical.warmStart {b : Banks} (h : b.Canonical) : b.warmStart.Canonical := by
  unfold Banks.warmStart
  split
  · exact h
  · exact h
  · exact ⟨h.1, rfl⟩

theorem Banks.warmStart_inLoad (b : Banks) : b.warmStart.shadowState.inLoad = false := by
  unfold Banks.warmStart
  split <;> simp_all [ShadowState.inLoad]

theorem Banks.Vouched.warmStart {V : Memory → Option Signature → Prop} {b : Banks} (h : b.Vouched V) :
    b.warmStart.Vouched V := by
  unfold Banks.warmStart
  split
  · exact h
  · exact h
  · exact ⟨h.1, fun ha => by cases ha⟩

theorem Banks.Vouched.of_inactive {V : Memory → Option Signature → Prop} {b c : Banks} (h : b.Vouched V)
    (hactive : c.active = b.active) (hsig : c.activeSig = b.activeSig) (hstate : c.shadowState.activatable = false) :
    c.Vouched V := by
  refine ⟨?_, fun ha => by rw [hstate] at ha; cases ha⟩
  rw [hactive, hsig]
  exact h.1

theorem Banks.Vouched.swapped {V : Memory → Option Signature → Prop} {b : Banks} (h : b.Vouched V)
    (ha : b.shadowState.activatable = true) : b.swapped.Vouched V := ⟨h.2 ha, fun _ => h.1⟩

/-! ## The three tables -/

theorem State.banks_setBanks (s : State) (k : TableId) (b : Banks) :
    (s.setBanks k b).banks = Function.update s.banks k b := by
  funext j
  cases k <;> cases j <;> rfl

theorem State.banks_congr (hp : t.products = s.products) (hh : t.hotList = s.hotList) (hd : t.days = s.days) :
    t.banks = s.banks := by
  funext k
  cases k
  · exact hp
  · exact hh
  · exact hd

theorem State.banks_load (s : State) (x : Option LoadTransaction) : ({ s with load := x } : State).banks = s.banks := rfl

/-- Whether a load is open for a table. -/
def loadFor (x : Option LoadTransaction) (k : TableId) : Bool :=
  match x with
  | none => false
  | some x => x.table == k

theorem loadOpenFor_eq (s : State) (k : TableId) : s.loadOpenFor k = loadFor s.load k := rfl

/-- Banks in canonical form, and the open load matched to the shadows. -/
structure TablesSound (banks : TableId → Banks) (load : Option LoadTransaction) : Prop where
  canonical : ∀ k, (banks k).Canonical
  matched : ∀ k, (banks k).shadowState.inLoad = loadFor load k

/-- Every bank vouched for in the sense of `V`. -/
def TablesVouched (V : TableId → Memory → Option Signature → Prop) (banks : TableId → Banks) : Prop :=
  ∀ k, (banks k).Vouched (V k)

theorem forall_update {P : TableId → Banks → Prop} {banks : TableId → Banks} {k : TableId} {b : Banks}
    (h : ∀ j, j ≠ k → P j (banks j)) (hb : P k b) (j : TableId) : P j (Function.update banks k b j) := by
  by_cases hj : j = k
  · subst hj
    rwa [Function.update_self]
  · rw [Function.update_of_ne hj]
    exact h j hj

section
variable {banks : TableId → Banks} {load : Option LoadTransaction} {k : TableId} {b : Banks} {x : LoadTransaction}

theorem TablesSound.of_update (h : TablesSound banks load) {load' : Option LoadTransaction} (hb : b.Canonical)
    (hother : ∀ j, j ≠ k → loadFor load' j = loadFor load j) (hk : b.shadowState.inLoad = loadFor load' k) :
    TablesSound (Function.update banks k b) load' where
  canonical := forall_update (P := fun _ b => b.Canonical) (fun j _ => h.canonical j) hb
  matched := forall_update (P := fun j b => b.shadowState.inLoad = loadFor load' j)
    (fun j hj => (h.matched j).trans (hother j hj).symm) hk

theorem TablesVouched.of_update (h : TablesVouched V banks) (hb : b.Vouched (V k)) :
    TablesVouched V (Function.update banks k b) :=
  forall_update (P := fun j b => b.Vouched (V j)) (fun j _ => h j) hb

theorem loadFor_same (x : LoadTransaction) : loadFor (some x) x.table = true := by simp [loadFor]

theorem loadFor_other {x : LoadTransaction} {j : TableId} (h : j ≠ x.table) : loadFor (some x) j = false := by
  simp [loadFor, h.symm]

theorem TablesSound.inLoad (h : TablesSound banks (some x)) : (banks x.table).shadowState.inLoad = true := by
  rw [h.matched, loadFor_same]

/-- A change of the loaded table's shadow within its load. -/
theorem TablesSound.within (h : TablesSound banks (some x)) {y : LoadTransaction} (hy : y.table = x.table)
    (hb : b.Canonical) (hstate : b.shadowState.inLoad = true) :
    TablesSound (Function.update banks x.table b) (some y) :=
  h.of_update hb (fun j hj => by rw [loadFor_other hj, loadFor_other (hy ▸ hj)]) (by rw [hstate, ← hy, loadFor_same])

/-- The end of a load. -/
theorem TablesSound.closed (h : TablesSound banks (some x)) (hb : b.Canonical) (hstate : b.shadowState.inLoad = false) :
    TablesSound (Function.update banks x.table b) none :=
  h.of_update hb (fun j hj => by rw [loadFor_other hj]; rfl) hstate

end

theorem writeBlock_banks (t : State) (x : LoadTransaction) (entries : List Byte) :
    ∃ m state, (t.writeBlock x entries).banks =
        Function.update t.banks x.table { t.banks x.table with shadow := m, shadowState := state } ∧
      ((t.banks x.table).shadow.wf = true → m.wf = true) ∧
      (state = .loaded ∨ state = (t.banks x.table).shadowState) := by
  refine ⟨_, _, State.banks_setBanks t x.table _, fun h => Memory.writeBytes_wf h _ _, ?_⟩
  split
  · exact .inl rfl
  · exact .inr rfl

theorem completeCheck_banks (t : State) (x : LoadTransaction) (expected : Signature) :
    ∃ state, (t.completeCheck x expected).banks = Function.update t.banks x.table
        { t.banks x.table with
          shadowSig := some (signatureOf (x.table.canonical (t.banks x.table).shadow)), shadowState := state } ∧
      (t.completeCheck x expected).load = none ∧
      (state = .corrupt ∨ state = .verified ∧
        (x.table = .hotList → HotListOrdered (t.banks x.table).shadow)) := by
  have hanswered (state : ShadowState) (result : Result) (results : List Byte) :
      ((t.checked x (signatureOf (x.table.canonical (t.banks x.table).shadow)) state).answer result results).banks =
        Function.update t.banks x.table { t.banks x.table with
          shadowSig := some (signatureOf (x.table.canonical (t.banks x.table).shadow)), shadowState := state } :=
    State.banks_setBanks t x.table _
  by_cases hsig : signatureOf (x.table.canonical (t.banks x.table).shadow) = expected
  · cases horder : (if x.table = .hotList then firstOutOfOrder (t.banks x.table).shadow else none) with
    | some i =>
      subst hsig
      rw [completeCheck_disorder rfl horder]
      exact ⟨_, hanswered .corrupt _ _, rfl, .inl rfl⟩
    | none =>
      subst hsig
      rw [completeCheck_ok rfl horder]
      refine ⟨_, hanswered .verified _ _, rfl, .inr ⟨rfl, fun hhot => ?_⟩⟩
      rw [if_pos hhot] at horder
      exact firstOutOfOrder_none_iff.1 horder
  · rw [completeCheck_mismatch rfl hsig]
    exact ⟨_, hanswered .corrupt _ _, rfl, .inl rfl⟩

/-- Every move of a command but those of the table store leaves banks and load alone. -/
def State.SameTables (s t : State) : Prop := t.banks = s.banks ∧ t.load = s.load

theorem State.sameTables_of_eq (hp : t.products = s.products) (hh : t.hotList = s.hotList) (hd : t.days = s.days)
    (hl : t.load = s.load) : s.SameTables t := ⟨State.banks_congr hp hh hd, hl⟩

theorem offerRequest_sameTables (s : State) (tag : Byte) (payload : List Byte) :
    s.SameTables (s.offerRequest tag payload) := by
  unfold State.offerRequest
  split
  · exact ⟨rfl, rfl⟩
  · split <;> exact ⟨rfl, rfl⟩

theorem lineFreed_sameTables (s : State) (source : FrameSource) : s.SameTables (s.lineFreed source) := by
  unfold State.lineFreed
  split <;> exact ⟨rfl, rfl⟩

theorem lock_sameTables (s : State) (l : Lane.Index) (sub : Subject) : s.SameTables (s.lock l sub) := by
  unfold State.lock
  split <;> exact ⟨rfl, rfl⟩

theorem append_sameTables (s : State) (body : RecordBody) : s.SameTables (s.append body) :=
  State.sameTables_of_eq (by simp) (by simp) (by simp) (by simp)

theorem transmit_sameTables (s : State) : s.SameTables s.transmit :=
  State.sameTables_of_eq (by simp) (by simp) (by simp) (by simp)

/-- What vouches for a bank: an empty one without a signature, and one whose check ended well (R6, R11). -/
structure Vouches (V : TableId → Memory → Option Signature → Prop) : Prop where
  empty : ∀ k, V k [] none
  checked : ∀ k m, (k = .hotList → HotListOrdered m) → V k m (some (signatureOf (k.canonical m)))

/-- The tables in a state. -/
structure TablesKept (V : TableId → Memory → Option Signature → Prop) (s : State) : Prop where
  sound : TablesSound s.banks s.load
  vouched : TablesVouched V s.banks

theorem TablesKept.of_same (h : TablesKept V s) (hsame : s.SameTables t) : TablesKept V t := by
  obtain ⟨hbanks, hload⟩ := hsame
  exact ⟨hbanks ▸ hload ▸ h.sound, hbanks ▸ h.vouched⟩

theorem banks_coldStart (t : State) (k : TableId) : t.coldStart.banks k = Banks.reset := by
  cases k <;> rfl

theorem banks_warmStart (t : State) (k : TableId) : t.warmStart.banks k = (t.banks k).warmStart := by
  cases k <;> rfl

theorem TablesKept.loadBegun (h : TablesKept V s) (k : TableId) (m : LoadMode) (x : LoadTransaction) (hx : x.table = k)
    (hload : s.load = none) :
    TablesKept V { s.setBanks k ((s.banks k).prepared m) with load := some x } := by
  subst hx
  have hbanks : ({ s.setBanks x.table ((s.banks x.table).prepared m) with load := some x } : State).banks =
      Function.update s.banks x.table ((s.banks x.table).prepared m) := State.banks_setBanks ..
  constructor
  · rw [hbanks]
    refine h.sound.of_update ((h.sound.canonical x.table).prepared m) (fun j hj => ?_) (loadFor_same x).symm
    rw [loadFor_other hj, hload]
    rfl
  · rw [hbanks]
    exact h.vouched.of_update ((h.vouched x.table).of_inactive rfl rfl rfl)

theorem TablesKept.blockWritten (h : TablesKept V s) {x : LoadTransaction} (entries : List Byte)
    (hload : s.load = some x) : TablesKept V (s.writeBlock x entries) := by
  obtain ⟨m, state, hbanks, hm, hstate⟩ := writeBlock_banks s x entries
  have hsound := h.sound
  rw [hload] at hsound
  have hinLoad : state.inLoad = true := by
    rcases hstate with rfl | rfl
    · rfl
    · exact hsound.inLoad
  have hcanonical := hsound.canonical x.table
  constructor
  · rw [hbanks]
    exact hsound.within rfl ⟨hcanonical.1, hm hcanonical.2⟩ hinLoad
  · rw [hbanks]
    exact h.vouched.of_update
      ((h.vouched x.table).of_inactive rfl rfl (ShadowState.not_activatable_of_inLoad hinLoad))

theorem TablesKept.loadAborted (h : TablesKept V s) {x : LoadTransaction} (hload : s.load = some x) :
    TablesKept V { s.setBanks x.table (s.banks x.table).emptied with load := none } := by
  have hbanks : ({ s.setBanks x.table (s.banks x.table).emptied with load := none } : State).banks =
      Function.update s.banks x.table (s.banks x.table).emptied := State.banks_setBanks ..
  have hsound := h.sound
  rw [hload] at hsound
  constructor
  · rw [hbanks]
    exact hsound.closed ⟨(hsound.canonical x.table).1, rfl⟩ rfl
  · rw [hbanks]
    exact h.vouched.of_update ((h.vouched x.table).of_inactive rfl rfl rfl)

theorem TablesKept.activated (h : TablesKept V s) {k : TableId} (hk : (s.banks k).shadowState.activatable = true) :
    TablesKept V (s.setBanks k (s.banks k).swapped) := by
  have hload : (s.setBanks k (s.banks k).swapped).load = s.load := by simp
  have hcanonical := h.sound.canonical k
  constructor
  · rw [State.banks_setBanks, hload]
    refine h.sound.of_update ⟨hcanonical.2, hcanonical.1⟩ (fun _ _ => rfl) ?_
    rw [← h.sound.matched k, ShadowState.not_inLoad_of_activatable hk]
    rfl
  · rw [State.banks_setBanks]
    exact h.vouched.of_update ((h.vouched k).swapped hk)

theorem TablesKept.checkBegun (h : TablesKept V s) {x : LoadTransaction} (sig : Signature) (hload : s.load = some x) :
    TablesKept V (Served.begun
      { s.setBanks x.table { s.banks x.table with shadowState := .checking } with
        load := some { x with expected := some sig } }).finish := by
  have hbanks : (Served.begun { s.setBanks x.table { s.banks x.table with shadowState := .checking } with
      load := some { x with expected := some sig } }).finish.banks =
      Function.update s.banks x.table { s.banks x.table with shadowState := .checking } := State.banks_setBanks ..
  have hsound := h.sound
  rw [hload] at hsound
  constructor
  · rw [hbanks]
    exact hsound.within rfl (hsound.canonical x.table) rfl
  · rw [hbanks]
    exact h.vouched.of_update ((h.vouched x.table).of_inactive rfl rfl rfl)

theorem TablesKept.checkDone (h : TablesKept V s) (hV : Vouches V) {x : LoadTransaction} (expected : Signature)
    (hload : s.load = some x) : TablesKept V (s.completeCheck x expected) := by
  obtain ⟨state, hbanks, hnone, hstate⟩ := completeCheck_banks s x expected
  have hsound := h.sound
  rw [hload] at hsound
  constructor
  · rw [hbanks, hnone]
    exact hsound.closed (hsound.canonical x.table) (by rcases hstate with rfl | ⟨rfl, -⟩ <;> rfl)
  · rw [hbanks]
    refine h.vouched.of_update ⟨(h.vouched x.table).1, fun ha => ?_⟩
    rcases hstate with rfl | ⟨-, hordered⟩
    · cases ha
    · exact hV.checked x.table _ hordered

theorem TablesKept.coldStart (hV : Vouches V) (s : State) : TablesKept V s.coldStart := by
  refine ⟨⟨fun k => ?_, fun k => ?_⟩, fun k => ?_⟩ <;> rw [banks_coldStart]
  · exact ⟨rfl, rfl⟩
  · rfl
  · exact ⟨hV.empty k, fun ha => by cases ha⟩

theorem TablesKept.warmStart (h : TablesKept V s) : TablesKept V s.warmStart := by
  refine ⟨⟨fun k => ?_, fun k => ?_⟩, fun k => ?_⟩ <;> rw [banks_warmStart]
  · exact (h.sound.canonical k).warmStart
  · exact Banks.warmStart_inLoad _
  · exact (h.vouched k).warmStart

/-- The tables keep what is said of them, move by move. -/
theorem TablesKept.of_work (hV : Vouches V) {P : Phase} (h : Work s P t) (hs : TablesKept V s) : TablesKept V t := by
  induction h with
  | start => exact hs
  | append body _ ih => exact ih.of_same (append_sameTables _ body)
  | @place φ b a t l tap sub p gates _ _ _ ih => exact ih.of_same (lock_sameTables t l sub)
  | loadBegun k m first n _ hload ih => exact ih.loadBegun k m _ rfl hload
  | blockWritten entries _ hload _ ih => exact ih.blockWritten entries hload
  | loadAborted _ hload ih => exact ih.loadAborted hload
  | activated k _ _ hk ih => exact ih.activated hk
  | checkBegun sig _ hload _ ih => exact ih.checkBegun sig hload
  | checkDone _ hload _ ih => exact ih.checkDone hV _ hload
  | openingDone _ _ ih =>
    exact ih.of_same (State.sameTables_of_eq (by simp [State.completeOpening]) (by simp [State.completeOpening])
      (by simp [State.completeOpening]) (by simp [State.completeOpening]))
  | offer tag payload _ ih => exact ih.of_same (offerRequest_sameTables _ tag payload)
  | @freed φ b a t f _ _ ih => exact ih.of_same (lineFreed_sameTables t f.source)
  | transmit _ ih => exact ih.of_same (transmit_sameTables _)
  | coldStart _ _ => exact TablesKept.coldStart hV _
  | warmStart _ ih => exact ih.warmStart
  | _ =>
    rename_i ih
    exact TablesKept.of_same ih ⟨rfl, rfl⟩

/-! ## The two ways of vouching -/

theorem vouches_signature : Vouches BankVouched where
  empty _ := .inl ⟨rfl, rfl⟩
  checked _ _ _ := .inr rfl

/-- A hot list is in order, whatever the other tables hold. -/
def HotListVouched (k : TableId) (m : Memory) (_ : Option Signature) : Prop := k = .hotList → HotListOrdered m

theorem hotListOrdered_nil : HotListOrdered [] := by
  intro i _ hne
  exact absurd (by rw [hotSerial, Memory.readNumber_eq]; rfl) hne

theorem vouches_order : Vouches HotListVouched where
  empty _ _ := hotListOrdered_nil
  checked _ _ h := h

theorem forall_tables {P : TableId → Prop} : (∀ k ∈ [TableId.products, .hotList, .days], P k) ↔ ∀ k, P k :=
  ⟨fun h k => h k (by cases k <;> simp), fun h k _ => h k⟩

theorem tablesSound_iff : TablesCanonical s ∧ LoadMatchesShadow s ↔ TablesSound s.banks s.load := by
  have hmatch (k : TableId) : ((s.banks k).shadowState ∈ [ShadowState.loading, .loaded, .checking] ↔
      s.loadOpenFor k = true) ↔ (s.banks k).shadowState.inLoad = loadFor s.load k := by
    rw [ShadowState.inLoad_iff, loadOpenFor_eq, ← Bool.eq_iff_iff]
  rw [TablesCanonical, LoadMatchesShadow, forall_tables, forall_tables]
  simp only [hmatch]
  exact ⟨fun ⟨h1, h2⟩ => ⟨h1, h2⟩, fun ⟨h1, h2⟩ => ⟨h1, h2⟩⟩

theorem banksVouched_iff : BanksVouched s ↔ TablesVouched BankVouched s.banks := by
  rw [BanksVouched, forall_tables]
  simp only [ShadowState.mem_activatable]
  exact Iff.rfl

theorem hotListsOrdered_iff : HotListsOrdered s ↔ TablesVouched HotListVouched s.banks := by
  simp only [HotListsOrdered, ShadowState.mem_activatable]
  constructor
  · rintro ⟨hactive, hshadow⟩ k
    refine ⟨?_, fun ha => ?_⟩
    · rintro rfl
      exact hactive
    · rintro rfl
      exact hshadow ha
  · exact fun h => ⟨(h .hotList).1 rfl, fun ha => (h .hotList).2 ha rfl⟩

/-- Settles O54: canonical form and the load, with each way of vouching, move by move. -/
theorem stepsKeepTheTables : Obligations.StepsKeepTheTables := by
  intro s t hs ht
  obtain ⟨u, ⟨cs, rfl⟩, hwork⟩ := step_work ht
  have hsound : TablesSound s.banks s.load := tablesSound_iff.1 hs
  have hkept {V : TableId → Memory → Option Signature → Prop} (hV : Vouches V) (h : TablesVouched V s.banks) :
      TablesKept V t := TablesKept.of_work hV hwork ⟨hsound, h⟩
  have htrivial : Vouches fun _ _ _ => True := ⟨fun _ => trivial, fun _ _ _ => trivial⟩
  obtain ⟨hcanonical, hmatched⟩ := tablesSound_iff.2 (hkept htrivial fun _ => ⟨trivial, fun _ => trivial⟩).sound
  exact ⟨hcanonical, hmatched, fun h => banksVouched_iff.2 (hkept vouches_signature (banksVouched_iff.1 h)).vouched,
    fun h => hotListsOrdered_iff.2 (hkept vouches_order (hotListsOrdered_iff.1 h)).vouched⟩

end Sys2Proof.Machine

/-! Frames and requests of the trunk: the receiver, the requests that the processor answers itself, the end of a frame
(R163 to R176). -/

namespace Sys2Proof.Machine

open Sys2Proof.Safety

variable {s t : State}

/-! ## Numbers in bytes -/

theorem be_length (n v : Nat) : (be n v).length = n := by
  induction n with
  | zero => rfl
  | succ n ih => rw [be, List.length_cons, ih]

theorem ofBe_foldl (bs : List Byte) (v : Nat) :
    bs.foldl (fun v b => 256 * v + b.toNat) v = 256 ^ bs.length * v + ofBe bs := by
  induction bs generalizing v with
  | nil => simp [ofBe]
  | cons b bs ih =>
    have hb : ofBe (b :: bs) = 256 ^ bs.length * b.toNat + ofBe bs := by simpa [ofBe] using ih b.toNat
    rw [List.foldl_cons, ih, hb, List.length_cons, Nat.pow_succ]
    ring

theorem ofBe_cons (b : Byte) (bs : List Byte) : ofBe (b :: bs) = 256 ^ bs.length * b.toNat + ofBe bs := by
  simpa [ofBe] using ofBe_foldl bs b.toNat

/-- The bytes of a number hold the number, as far as they reach. -/
theorem ofBe_be (n v : Nat) : ofBe (be n v) = v % 256 ^ n := by
  induction n with
  | zero => simp [be, ofBe, Nat.mod_one]
  | succ n ih =>
    rw [be, ofBe_cons, ih, be_length, BitVec.toNat_ofNat, Nat.pow_succ 256 n, Nat.mod_mul (a := 256 ^ n)]
    exact Nat.add_comm ..

theorem ofBe_be_of_lt {n v : Nat} (h : v < 256 ^ n) : ofBe (be n v) = v := by rw [ofBe_be, Nat.mod_eq_of_lt h]

theorem be_two (v : Nat) : be 2 v = [BitVec.ofNat 8 (v / 256), BitVec.ofNat 8 v] := by simp [be]

/-! ## The receiver's judgement (R164) -/

theorem judgeFrame_full {hi lo kind tag : Byte} {tail : List Byte} (hlimit : ofBe [hi, lo] ≤ 1024) :
    judgeFrame (hi :: lo :: kind :: tag :: tail) =
      if tail.length < ofBe [hi, lo] + 2 then .incomplete
      else if be 2 (frameCheck (hi :: lo :: kind :: tag :: tail.take (ofBe [hi, lo]))).toNat =
        tail.drop (ofBe [hi, lo]) then .good kind tag (tail.take (ofBe [hi, lo]))
      else .discarded := by
  have hlimit : ¬Config.payloadLimit < ofBe [hi, lo] := Nat.not_lt.2 hlimit
  simp only [judgeFrame, if_neg hlimit]

theorem judgeFrame_long {hi lo : Byte} {rest : List Byte} (h : 1024 < ofBe [hi, lo]) :
    judgeFrame (hi :: lo :: rest) = .discarded := by
  have h : Config.payloadLimit < ofBe [hi, lo] := h
  simp only [judgeFrame, if_pos h]

theorem judgeFrame_short {hi lo : Byte} {rest : List Byte} (hlimit : ofBe [hi, lo] ≤ 1024) (h : rest.length < 2) :
    judgeFrame (hi :: lo :: rest) = .incomplete := by
  have hlimit : ¬Config.payloadLimit < ofBe [hi, lo] := Nat.not_lt.2 hlimit
  simp only [judgeFrame, if_neg hlimit]
  match rest with
  | [] => rfl
  | [_] => rfl

/-- Bytes that are incomplete are short, or begin a length that is allowed and lack bytes. -/
theorem judgeFrame_incomplete_iff {got : List Byte} : judgeFrame got = .incomplete ↔
    got.length < 2 ∨ ∃ hi lo rest, got = hi :: lo :: rest ∧ ofBe [hi, lo] ≤ 1024 ∧ rest.length < ofBe [hi, lo] + 4 := by
  match got with
  | [] => simp [judgeFrame]
  | [_] => simp [judgeFrame]
  | hi :: lo :: rest =>
    have hlong : ¬(hi :: lo :: rest).length < 2 := by simp
    simp only [hlong, false_or]
    constructor
    · intro h
      by_cases hlimit : 1024 < ofBe [hi, lo]
      · rw [judgeFrame_long hlimit] at h
        cases h
      · refine ⟨hi, lo, rest, rfl, Nat.le_of_not_lt hlimit, ?_⟩
        match rest, h with
        | [], _ => simp
        | [_], _ => simp
        | kind :: tag :: tail, h =>
          rw [judgeFrame_full (Nat.le_of_not_lt hlimit)] at h
          split at h
          · next hlack =>
            simp only [List.length_cons]
            omega
          · split at h <;> cases h
    · rintro ⟨hi', lo', rest', heq, hlimit, hlack⟩
      cases heq
      match rest, hlack with
      | [], _ => exact judgeFrame_short hlimit (by simp)
      | [_], _ => exact judgeFrame_short hlimit (by simp)
      | kind :: tag :: tail, hlack =>
        rw [judgeFrame_full hlimit, if_pos]
        simp only [List.length_cons] at hlack
        omega

/-- A good frame is complete at its last byte. -/
theorem judgeFrame_good {got : List Byte} {kind tag : Byte} {payload : List Byte}
    (h : judgeFrame got = .good kind tag payload) :
    ∃ hi lo rest, got = hi :: lo :: rest ∧ ofBe [hi, lo] ≤ 1024 ∧ rest.length = ofBe [hi, lo] + 4 := by
  match got, h with
  | hi :: lo :: rest, h =>
    by_cases hlimit : 1024 < ofBe [hi, lo]
    · rw [judgeFrame_long hlimit] at h
      cases h
    · refine ⟨hi, lo, rest, rfl, Nat.le_of_not_lt hlimit, ?_⟩
      match rest, h with
      | [], h => rw [judgeFrame_short (Nat.le_of_not_lt hlimit) (by simp)] at h; cases h
      | [_], h => rw [judgeFrame_short (Nat.le_of_not_lt hlimit) (by simp)] at h; cases h
      | k :: g :: tail, h =>
        rw [judgeFrame_full (Nat.le_of_not_lt hlimit)] at h
        split at h
        · cases h
        · split at h
          · next hlack hcheck =>
            have hlength := congrArg List.length hcheck
            rw [be_length, List.length_drop] at hlength
            simp only [List.length_cons]
            omega
          · cases h

/-- Before its end a frame that is incomplete or good is incomplete. -/
theorem judgeFrame_prefix {xs ys : List Byte} (hys : ys ≠ [])
    (h : judgeFrame (xs ++ ys) = .incomplete ∨ ∃ kind tag payload, judgeFrame (xs ++ ys) = .good kind tag payload) :
    judgeFrame xs = .incomplete := by
  have hpos : 0 < ys.length := List.length_pos_iff.2 hys
  have hfull : xs.length < 2 ∨
      ∃ hi lo rest, xs ++ ys = hi :: lo :: rest ∧ ofBe [hi, lo] ≤ 1024 ∧ rest.length ≤ ofBe [hi, lo] + 4 := by
    rcases h with h | ⟨kind, tag, payload, h⟩
    · rcases judgeFrame_incomplete_iff.1 h with hshort | ⟨hi, lo, rest, heq, hlimit, hlack⟩
      · refine .inl ?_
        rw [List.length_append] at hshort
        omega
      · exact .inr ⟨hi, lo, rest, heq, hlimit, by omega⟩
    · obtain ⟨hi, lo, rest, heq, hlimit, hlength⟩ := judgeFrame_good h
      exact .inr ⟨hi, lo, rest, heq, hlimit, by omega⟩
  rw [judgeFrame_incomplete_iff]
  rcases hfull with hshort | ⟨hi, lo, rest, heq, hlimit, hlength⟩
  · exact .inl hshort
  · match xs, heq with
    | [], _ => exact .inl (by simp)
    | [_], _ => exact .inl (by simp)
    | a :: b :: xs, heq =>
      simp only [List.cons_append, List.cons.injEq] at heq
      obtain ⟨rfl, rfl, rfl⟩ := heq
      refine .inr ⟨a, b, xs, rfl, hlimit, ?_⟩
      rw [List.length_append] at hlength
      omega

/-- The frame that the layout gives is good (R186). -/
theorem judgeFrame_trunkFrame (kind tag : Byte) {payload : List Byte} (h : payload.length ≤ 1024) :
    judgeFrame (trunkFrame kind tag payload).tail = .good kind tag payload := by
  have hbe : ofBe (be 2 payload.length) = payload.length := ofBe_be_of_lt (by omega)
  rw [be_two] at hbe
  simp only [trunkFrame, List.tail_cons, be_two payload.length, List.cons_append, List.nil_append]
  rw [judgeFrame_full (by omega), hbe, List.take_left, List.drop_left, if_neg, if_pos rfl]
  rw [List.length_append, be_length]
  omega

/-- Settles O6: the whole frame is good, and what is good only at its end is incomplete before. -/
theorem trunkFramesAreReceivedWhole : Obligations.TrunkFramesAreReceivedWhole := by
  intro kind tag payload hlength
  have hgood := judgeFrame_trunkFrame kind tag hlength
  refine ⟨hgood, fun n hn => judgeFrame_prefix (ys := (trunkFrame kind tag payload).tail.drop n) ?_ (.inr ⟨kind, tag, payload, ?_⟩)⟩
  · rw [← List.length_pos_iff, List.length_drop]
    omega
  · rw [List.take_append_drop]
    exact hgood

/-! ## The receiver's bytes (R164) -/

theorem State.setReceiver_setReceiver (s : State) (q r : Receiver) :
    (s.setReceiver q).setReceiver r = s.setReceiver r := rfl

theorem State.setReceiver_self (h : s.trunk.receiver = .hunting) : s.setReceiver .hunting = s := by
  rw [State.setReceiver, ← h]

theorem State.receiveByte_incomplete {got : List Byte} {b : Byte} (h : judgeFrame (got ++ [b]) = .incomplete) :
    (s.setReceiver (.assembling got)).receiveByte b = s.setReceiver (.assembling (got ++ [b])) := by
  simp only [State.receiveByte, State.setReceiver, h]

/-- Bytes that stay incomplete are assembled. -/
theorem State.receive_incomplete {got bs : List Byte} (h : judgeFrame (got ++ bs) = .incomplete) :
    (s.setReceiver (.assembling got)).receive bs = s.setReceiver (.assembling (got ++ bs)) := by
  induction bs generalizing got with
  | nil => rw [List.append_nil]; rfl
  | cons b bs ih =>
    have hb : judgeFrame (got ++ [b]) = .incomplete := by
      cases bs with
      | nil => exact h
      | cons c bs => exact judgeFrame_prefix (ys := c :: bs) (by simp) (.inl (by simpa using h))
    have hrest : judgeFrame ((got ++ [b]) ++ bs) = .incomplete := by simpa using h
    rw [State.receive, List.foldl_cons, State.receiveByte_incomplete hb]
    simpa [State.receive] using ih hrest

theorem State.receive_begun {got : List Byte} (hs : s.trunk.receiver = .hunting) (h : judgeFrame got = .incomplete) :
    s.receive (startByte :: got) = s.setReceiver (.assembling got) := by
  have hstart : s.receiveByte startByte = s.setReceiver (.assembling []) := by simp [State.receiveByte, hs]
  rw [State.receive, List.foldl_cons, hstart]
  exact State.receive_incomplete h

theorem State.receive_append (s : State) (xs ys : List Byte) : s.receive (xs ++ ys) = (s.receive xs).receive ys :=
  List.foldl_append ..

/-- A frame is judged at its last byte. -/
theorem State.receive_last {init : List Byte} {b : Byte} (hs : s.trunk.receiver = .hunting)
    (h : judgeFrame init = .incomplete) :
    s.receive (startByte :: (init ++ [b])) = (s.setReceiver (.assembling init)).receiveByte b := by
  rw [← List.cons_append, State.receive_append, State.receive_begun hs h]
  rfl

theorem State.receive_good {got : List Byte} {kind tag : Byte} {payload : List Byte}
    (hs : s.trunk.receiver = .hunting) (h : judgeFrame got = .good kind tag payload) :
    s.receive (startByte :: got) = (s.goodFrame kind tag payload).transmit := by
  rcases List.eq_nil_or_concat got with rfl | ⟨init, b, rfl⟩
  · cases h
  · rw [List.concat_eq_append] at h ⊢
    rw [State.receive_last hs (judgeFrame_prefix (by simp) (.inr ⟨kind, tag, payload, h⟩))]
    simp only [State.receiveByte, State.setReceiver, h]
    rw [← hs]

theorem State.receive_discarded {init : List Byte} {b : Byte} (hs : s.trunk.receiver = .hunting)
    (hinit : judgeFrame init = .incomplete) (h : judgeFrame (init ++ [b]) = .discarded) :
    s.receive (startByte :: (init ++ [b])) = s.transmit := by
  rw [State.receive_last hs hinit]
  simp only [State.receiveByte, State.setReceiver, h]
  rw [← hs]

/-- Settles O7: a good REQUEST frame is offered to the queue. -/
theorem requestsAreQueuedOrAnsweredBusy : Obligations.RequestsAreQueuedOrAnsweredBusy := by
  intro s tag payload hlength hs
  have hframe : trunkFrame 1#8 tag payload = startByte :: (trunkFrame 1#8 tag payload).tail := rfl
  show Host.Outcome.next (s.receive (trunkFrame 1#8 tag payload)) = _
  rw [hframe, State.receive_good hs (judgeFrame_trunkFrame 1#8 tag hlength)]
  have hcode : answerCode payload = payload.headD 0#8 := by cases payload <;> rfl
  simp only [State.goodFrame, if_true, State.offerRequest, hcode]
  rfl

theorem goodKind_eq {bytes : List Byte} {k : Byte} (h : goodKind bytes = some k) :
    ∃ got tag payload, bytes = startByte :: got ∧ judgeFrame got = .good k tag payload := by
  unfold goodKind at h
  split at h
  · next b got =>
    split at h
    · next hb =>
      split at h
      · next kind tag payload hgood =>
        cases h
        exact ⟨got, tag, payload, by rw [hb], hgood⟩
      · cases h
    · cases h
  · cases h

/-- A good frame of a known kind is received. -/
theorem State.receive_goodKind {bytes : List Byte} {k : Byte} (hs : s.trunk.receiver = .hunting)
    (h : goodKind bytes = some k) : ∃ tag payload, s.receive bytes = (s.goodFrame k tag payload).transmit := by
  obtain ⟨got, tag, payload, rfl, hgood⟩ := goodKind_eq h
  exact ⟨tag, payload, State.receive_good hs hgood⟩

theorem State.transmit_setReceiver (s : State) (r : Receiver) :
    (s.setReceiver r).transmit = s.transmit.setReceiver r := by
  cases hs : s.trunk.sending with
  | some f => rw [State.transmit_sending hs, State.transmit_sending (s := s.setReceiver r) hs]
  | none =>
    by_cases ha : s.trunk.attention = .pending
    · rw [State.transmit_attention hs ha, State.transmit_attention (s := s.setReceiver r) hs ha]
      rfl
    · cases hr : s.trunk.ready with
      | cons source rest =>
        rw [State.transmit_ready hs ha hr, State.transmit_ready (s := s.setReceiver r) hs ha hr]
        cases source with
        | response =>
          cases hq : s.trunk.queue with
          | nil => simp only [State.beginAnswer, State.setReceiver, hq]
          | cons q more =>
            obtain ⟨tag, payload, condition⟩ := q
            cases condition <;> simp only [State.beginAnswer, State.setReceiver, hq]
        | busy => cases hb : s.trunk.busy <;> simp only [State.beginAnswer, State.setReceiver, hb]
      | nil =>
        rw [State.transmit_reports hs ha hr, State.transmit_reports (s := s.setReceiver r) hs ha hr]
        have hcalls : (s.setReceiver r).reports.calls = s.reports.calls := rfl
        rw [hcalls]
        split <;> rfl

theorem State.elapse_setReceiver (hs : s.trunk.receiver = .hunting) (ms : Nat) (r : Receiver) :
    ((s.setReceiver r).elapse ms).setReceiver .hunting = s.elapse ms := by
  have hself : s.transmit = (s.transmit).setReceiver .hunting := by
    rw [← State.transmit_setReceiver, State.setReceiver_self hs]
  rw [State.elapse, State.elapse, State.transmit_setReceiver]
  conv_rhs => rw [hself]
  rfl

/-- Settles O8: each frame by its judgement and its kind. -/
theorem otherFramesReceived : Obligations.OtherFramesReceived := by
  refine fun s bytes hs => ⟨fun h => ?_, fun h => ?_, fun h => ?_, fun h => ?_, fun h => ?_⟩
  · match bytes, h with
    | b :: got, h =>
      simp only [Instr.wf, discardedWf, Bool.and_eq_true, beq_iff_eq] at h
      obtain ⟨⟨rfl, hinit⟩, hdiscarded⟩ := h
      have hgot : got ≠ [] := by
        rintro rfl
        cases hdiscarded
      have hsplit := List.dropLast_append_getLast hgot
      rw [← hsplit] at hdiscarded
      show Host.Outcome.next (s.receive _) = _
      rw [← hsplit, State.receive_discarded hs hinit hdiscarded]
  · simp only [Instr.wf, unexpectedWf] at h
    split at h
    · next k hk =>
      simp only [expectedKind, Bool.not_eq_true', Bool.or_eq_false_iff, beq_eq_false_iff_ne] at h
      obtain ⟨⟨h1, h5⟩, h6⟩ := h
      obtain ⟨tag, payload, hreceive⟩ := State.receive_goodKind hs hk
      show Host.Outcome.next (s.receive bytes) = _
      rw [hreceive, State.goodFrame, if_neg h1, if_neg h5, if_neg h6]
    · cases h
  · match bytes, h with
    | b :: got, h =>
      simp only [Instr.wf, beganWf, Bool.and_eq_true, beq_iff_eq] at h
      obtain ⟨rfl, hgot⟩ := h
      show Host.Outcome.next (((s.receive (startByte :: got)).elapse 2).setReceiver .hunting) = _
      rw [State.receive_begun hs hgot, State.elapse_setReceiver hs]
  · obtain ⟨tag, payload, hreceive⟩ := State.receive_goodKind hs (by simpa [Instr.wf] using h)
    show Host.Outcome.next (s.receive bytes) = _
    rw [hreceive]
    rfl
  · obtain ⟨tag, payload, hreceive⟩ := State.receive_goodKind hs (by simpa [Instr.wf] using h)
    show Host.Outcome.next (s.receive bytes) = _
    rw [hreceive]
    rfl

/-! ## The end of a frame (R166, R171, R176) -/

theorem exec_frameSent {f : OutFrame} (h : s.trunk.sending = some f) :
    exec .frameSent s = .next (s.frameEnded f).transmit := by
  show execFrameSent s = _
  simp only [execFrameSent, h]

theorem State.warmStart_lineFreed (s : State) (source : FrameSource) : (s.lineFreed source).warmStart = s.warmStart := by
  unfold State.lineFreed
  split <;> rfl

/-- Settles O11: the end of each source's frame. -/
theorem frameSentGoesOn : Obligations.FrameSentGoesOn := by
  intro s f hf
  rw [exec_frameSent hf, State.frameEnded_eq]
  refine ⟨fun hsource hnot => ?_, fun hsource hresetting hpayload => ?_, fun hsource => ?_, fun hsource => ?_⟩
  · rw [if_neg fun h => hnot h.2, hsource]
    rfl
  · rw [if_pos ⟨hsource, hresetting, hpayload⟩, State.warmStart_lineFreed]
  · rw [if_neg (by simp [hsource]), hsource]
    rfl
  · rcases hsource with hsource | hsource <;>
    · rw [if_neg (by simp [hsource]), hsource]
      rfl

/-! ## The requests of the trunk interface (R174 to R176) -/

theorem causesBytes_eq (c : CauseSet) : c.bytes =
    fields [(1, oneBit c.coldStart + 2 * oneBit c.warmStart + 4 * oneBit (c.readerLost != 0#8) +
        8 * oneBit (c.laneFault != 0#8) + 16 * oneBit c.liftStopped + 32 * oneBit c.reportBacklog +
        64 * oneBit c.reportOverflow), (1, c.readerLost.toNat), (1, c.laneFault.toNat)] := by
  have hflag (b : Bool) (v : Nat) : (if b then v else 0) = v * oneBit b := by cases b <;> simp [oneBit]
  have hset (b : Byte) (v : Nat) : (if b = 0#8 then 0 else v) = v * oneBit (b != 0#8) := by
    by_cases hb : b = 0#8 <;> simp [oneBit, hb]
  simp only [CauseSet.bytes, fields_cons, fields_nil, item_byte, hflag, hset, Nat.one_mul]
  rfl

theorem dayItem_eq (c : DayClock) : c.dayItem = fields (dayRows c) := by
  have htoday : optItem 1 c.dayState.today (item 1) = fields (optRows 1 (c.dayState.today.map fun d => [(1, d)])) :=
    optItem_eq 1 _ _ _ fun d => by simp [fields_cons, fields_nil]
  have hstate : c.dayState.code = match c.dayState with
      | .noDay => 0 | .opening _ _ _ => 1 | .dayOpen _ => 2 | .dayClosed _ => 3 := by cases c.dayState <;> rfl
  simp only [DayClock.dayItem, dayRows, fields_append, fields_cons, fields_nil, htoday, hstate, clockCode, oneBit,
    List.append_nil, List.append_assoc] <;> rfl

theorem LaneMode.code_eq (m : LaneMode) : m.code = modeCode m := by cases m <;> rfl

theorem summary_eq (x : Lane) : x.summary =
    fields [(1, modeCode x.mode), (1, oneBit x.faults.obstruction + 2 * oneBit x.faults.stuck)] := by
  have hfaults : x.faults.code = oneBit x.faults.obstruction + 2 * oneBit x.faults.stuck := by
    cases ho : x.faults.obstruction <;> cases hs : x.faults.stuck <;> simp [FaultSet.code, oneBit, ho, hs]
  simp only [Lane.summary, fields_cons, fields_nil, List.append_nil, LaneMode.code_eq, hfaults]

theorem fields_flatMap {α : Type} (xs : List α) (rows : α → List (Nat × Nat)) :
    fields (xs.flatMap rows) = xs.flatMap fun x => fields (rows x) := by
  simp only [fields, List.flatMap_assoc]

theorem statusResults_eq (s : State) : s.statusResults =
    fields ([(1, oneBit s.trunk.causes.coldStart + 2 * oneBit s.trunk.causes.warmStart +
          4 * oneBit (s.trunk.causes.readerLost != 0#8) + 8 * oneBit (s.trunk.causes.laneFault != 0#8) +
          16 * oneBit s.trunk.causes.liftStopped + 32 * oneBit s.trunk.causes.reportBacklog +
          64 * oneBit s.trunk.causes.reportOverflow), (1, s.trunk.causes.readerLost.toNat),
          (1, s.trunk.causes.laneFault.toNat)] ++
        dayRows s.clock ++
        [(1, match s.pacing.lift with | .stopped => 0 | .running => 1),
          (1, match s.pacing.source with | .external => 0 | .internal => 1)] ++
        s.lanes.toList.flatMap (fun x =>
          [(1, modeCode x.mode), (1, oneBit x.faults.obstruction + 2 * oneBit x.faults.stuck)]) ++
        [(1, match s.trunk.attention with | .quiet => 0 | .pending => 1 | .sent => 2)]) := by
  have hlift : s.pacing.lift.code = match s.pacing.lift with | .stopped => 0 | .running => 1 := by
    cases s.pacing.lift <;> rfl
  have hsource : s.pacing.source.code = match s.pacing.source with | .external => 0 | .internal => 1 := by
    cases s.pacing.source <;> rfl
  have hattention : s.trunk.attention.code =
      match s.trunk.attention with | .quiet => 0 | .pending => 1 | .sent => 2 := by
    cases s.trunk.attention <;> rfl
  rw [State.statusResults, causesBytes_eq, dayItem_eq, hlift, hsource, hattention]
  simp only [summary_eq, fields_append, fields_flatMap, State.lanes_toList, List.flatMap_map, fields_cons, fields_nil,
    List.append_nil, List.append_assoc]

/-- Settles O10: the three requests that the processor answers itself. -/
theorem trunkRequestsAnswered : Obligations.TrunkRequestsAnswered := by
  refine fun s => ⟨fun h => answers_of_serve rfl h ?_, fun h => answers_of_serve rfl h ?_,
    fun h => ⟨answers_of_serve rfl h rfl, rfl⟩⟩
  · exact congrArg (Served.answered s .ok) (by decide)
  · exact congrArg (Served.answered s.quieten .ok) (statusResults_eq s)

end Sys2Proof.Machine

/-! Requests that do not fit their form (R167), and the pass record store's requests (R28 to R33, R190). -/

namespace Sys2Proof.Machine

open Sys2Proof.Safety

variable {s t : State}

/-! ## Requests of a wrong length, of no lane, of no table (R9, R10, R17, R28, R101, R167) -/

/-- A request served by `f` refuses parameters of every length but `n` with BAD_REQUEST. -/
def Formed (c : Instr) (code : Byte) (n : Nat) : Prop :=
  ∃ f : List Byte → State → Served, (∀ s, exec c s = .next (s.serve code f)) ∧
    ∀ s params, params.length ≠ n → f params s = .refuse s .badRequest

theorem Formed.answers {c : Instr} {code : Byte} {n : Nat} (h : Formed c code n) {params : List Byte}
    (htakes : s.takes code = some params) (hlength : params.length ≠ n) : Answers c s s .badRequest [] := by
  obtain ⟨f, hexec, hf⟩ := h
  exact answers_of_serve (hexec s) htakes (hf s params hlength)

theorem formed_serveLane {c : Instr} {code : Byte} {f : Lane.Index → State → Served}
    (hc : ∀ s, exec c s = .next (s.serve code (serveLane f))) : Formed c code 1 := by
  refine ⟨_, hc, fun s params h => ?_⟩
  unfold serveLane
  split
  · simp at h
  · rfl

theorem formed_all : ∀ row ∈ requestForms, Formed row.1 row.2.1 row.2.2 := by
  simp only [requestForms, List.cons_append, List.nil_append, List.forall_mem_cons, List.not_mem_nil, false_imp_iff,
    implies_true, and_true]
  refine ⟨⟨_, fun _ => rfl, fun s params h => ?ident⟩, ⟨_, fun _ => rfl, fun s params h => ?status⟩,
    ⟨_, fun _ => rfl, fun s params h => ?reset⟩, ⟨_, fun _ => rfl, fun s params h => ?loadBegin⟩,
    ⟨_, fun _ => rfl, fun s params h => ?loadEnd⟩, ⟨_, fun _ => rfl, fun s params h => ?loadAbort⟩,
    ⟨_, fun _ => rfl, fun s params h => ?activate⟩, ⟨_, fun _ => rfl, fun s params h => ?info⟩,
    ⟨_, fun _ => rfl, fun s params h => ?read⟩, ⟨_, fun _ => rfl, fun s params h => ?fetch⟩,
    ⟨_, fun _ => rfl, fun s params h => ?remove⟩, ⟨_, fun _ => rfl, fun s params h => ?scan⟩,
    formed_serveLane fun _ => rfl, formed_serveLane fun _ => rfl, ⟨_, fun _ => rfl, fun s params h => ?gate⟩,
    formed_serveLane fun _ => rfl, ⟨_, fun _ => rfl, fun s params h => ?laneConfig⟩,
    ⟨_, fun _ => rfl, fun s params h => ?bankConfig⟩, formed_serveLane fun _ => rfl, formed_serveLane fun _ => rfl,
    ⟨_, fun _ => rfl, fun s params h => ?counters⟩, ⟨_, fun _ => rfl, fun s params h => ?clearSeason⟩,
    ⟨_, fun _ => rfl, fun s params h => ?dayOpen⟩, ⟨_, fun _ => rfl, fun s params h => ?dayClose⟩,
    ⟨_, fun _ => rfl, fun s params h => ?timeSet⟩, ⟨_, fun _ => rfl, fun s params h => ?quote⟩,
    ⟨_, fun _ => rfl, fun s params h => ?commit⟩, ⟨_, fun _ => rfl, fun s params h => ?reports⟩⟩
  case loadBegin => unfold serveLoadBegin; split <;> [simp at h; rfl]
  case loadEnd => unfold serveLoadEnd; split <;> [simp at h; rfl]
  case loadAbort => unfold serveLoadAbort; split <;> [simp at h; rfl]
  case activate => unfold serveTableActivate; split <;> [simp at h; rfl]
  case info => unfold serveTableInfo; split <;> [simp at h; rfl]
  case read => unfold serveTableRead; split <;> [simp at h; rfl]
  case fetch => unfold servePassFetch; split <;> [simp at h; rfl]
  case remove => unfold servePassRemove; split <;> [simp at h; rfl]
  case scan => unfold servePassScan; split <;> [simp at h; rfl]
  case gate => unfold serveGateCommand; split <;> [simp at h; rfl]
  case laneConfig =>
    unfold serveLaneConfig
    split
    · next numbers =>
      have hnumbers : numbers.length ≠ 12 := by simpa using h
      rw [if_pos hnumbers]
    · rfl
  case bankConfig => unfold serveBankConfig; split <;> [simp at h; rfl]
  case counters => unfold serveCountersRead; split <;> [simp at h; rfl]
  case clearSeason => unfold serveCountersClearSeason; split <;> [simp at h; rfl]
  case dayOpen => unfold serveDayOpen; split <;> [simp at h; rfl]
  case dayClose => unfold serveDayClose; split <;> [simp at h; rfl]
  case timeSet => unfold serveTimeSet; split <;> [simp at h; rfl]
  case quote => unfold serveRefundQuote; split <;> [simp at h; rfl]
  case commit => unfold serveRefundCommit; split <;> [simp at h; rfl]
  case reports => unfold serveReportConfig; split <;> [simp at h; rfl]
  case ident => split <;> [simp at h; rfl]
  case status => split <;> [simp at h; rfl]
  case reset => split <;> [simp at h; rfl]

theorem exec_unknownRequest {r : Request} (h : s.takeable = some r)
    (hr : r.payload = [] ∨ ∃ c rest, r.payload = c :: rest ∧ c ∉ requestCodes) :
    Answers .unknownRequest s s .badRequest [] := by
  show execUnknownRequest s = _
  rcases hr with hr | ⟨c, rest, hr, hc⟩
  · simp only [execUnknownRequest, h, hr]
  · simp only [execUnknownRequest, h, hr, if_neg hc]

theorem answers_noLane {c : Instr} {code n : Byte} {f : Lane.Index → State → Served}
    (hc : exec c s = .next (s.serve code (serveLane f))) (h : s.takes code = some [n])
    (hn : ¬(1 ≤ n.toNat ∧ n.toNat ≤ 8)) : Answers c s s .badValue [] :=
  answers_of_serve hc h (by simp only [serveLane, laneOf, dif_neg hn]; rfl)

theorem laneRequests_noLane {n : Byte} (hn : ¬(1 ≤ n.toNat ∧ n.toNat ≤ 8)) :
    ∀ row ∈ laneRequests, s.takes row.2 = some [n] → Answers row.1 s s .badValue [] := by
  simp only [laneRequests, List.forall_mem_cons, List.not_mem_nil, false_imp_iff, implies_true, and_true]
  exact ⟨fun h => answers_noLane rfl h hn, fun h => answers_noLane rfl h hn, fun h => answers_noLane rfl h hn,
    fun h => answers_noLane rfl h hn, fun h => answers_noLane rfl h hn⟩

theorem serveLoadBlock_eq {table : Byte} {entries : List Byte} {k : TableId} (hk : tableOf table = some k) :
    serveLoadBlock (table :: entries) s =
      if entries.length ≠ 16 * k.entrySize then .refuse s .badRequest
      else
        match s.load with
        | none => .refuse s .loadNotOpen
        | some x =>
          if x.table ≠ k then .refuse s .loadNotOpen
          else if x.remaining = 0 then .refuse s .badValue
          else .answered (s.writeBlock x entries) .ok (item 1 (x.remaining - 1)) := by
  simp only [serveLoadBlock, hk] <;> rfl

/-- Settles O9: the refusals before a request reaches its owner's tables, lanes and records. -/
theorem unfitRequestsAreRefused : Obligations.UnfitRequestsAreRefused := by
  refine ⟨fun s r h hr => exec_unknownRequest h hr,
    fun s params row hrow h hlength => (formed_all row hrow).answers h hlength,
    fun s n row hrow h hn => laneRequests_noLane hn row hrow h, fun s table hk => ⟨?_, ?_, ?_⟩,
    fun s table k hk => ⟨?_, fun hother => ⟨?_, ?_⟩, ?_⟩, fun s => ⟨fun h => answers_of_serve rfl h rfl, ?_⟩⟩
  · exact fun entries h => answers_of_serve rfl h (by simp only [serveLoadBlock, hk]; rfl)
  · exact fun e3 e2 e1 e0 h => answers_of_serve rfl h (by simp only [serveLoadEnd, hk]; rfl)
  · exact fun bank block h => answers_of_serve rfl h (by simp only [serveTableRead, hk]; rfl)
  · exact fun entries h hlength => answers_of_serve rfl h (by rw [serveLoadBlock_eq hk, if_pos hlength]; rfl)
  · intro entries h hlength
    refine answers_of_serve rfl h ?_
    rw [serveLoadBlock_eq hk, if_neg (by simpa using hlength)]
    cases hload : s.load with
    | none => rfl
    | some x => simp only [ne_eq, hother x hload, not_false_eq_true, if_true]; rfl
  · intro e3 e2 e1 e0 h
    refine answers_of_serve rfl h ?_
    cases hload : s.load with
    | none => simp only [serveLoadEnd, hk, hload]; rfl
    | some x => simp only [serveLoadEnd, hk, hload, ne_eq, hother x hload, not_false_eq_true, if_true]; rfl
  · intro entries x h hlength hload hx hremaining
    refine answers_of_serve rfl h ?_
    rw [serveLoadBlock_eq hk, if_neg (by simpa using hlength)]
    simp only [hload, hx, hremaining, ne_eq, not_true_eq_false, if_false, if_true]
    rfl
  · exact fun form h hlength => answers_of_serve rfl h (by rw [servePassStore, if_pos hlength]; rfl)

end Sys2Proof.Machine

/-! The transfer form of a pass record, and the pass record store's requests (R28 to R33, R190). -/

namespace Sys2Proof.Machine

open Sys2Proof.Safety

variable {s t : State}

/-! ## Items within bytes -/

theorem item_length (n v : Nat) : (item n v).length = n := by
  unfold item
  split
  · exact be_length n v
  · simp

/-- A number behind an item is found behind it. -/
theorem numberAt_skip {n off : Nat} (h : n ≤ off) (v k : Nat) (bs : List Byte) :
    numberAt (item n v ++ bs) off k = numberAt bs (off - n) k := by
  rw [numberAt, numberAt, List.drop_append, item_length, List.drop_of_length_le (by rw [item_length]; exact h),
    List.nil_append]

/-- A number that fits is read back from its item. -/
theorem numberAt_item {n v : Nat} (h : v < 256 ^ n) (bs : List Byte) : numberAt (item n v ++ bs) 0 n = v := by
  have htake : (item n v ++ bs).take n = item n v := List.take_left' (item_length n v)
  rw [numberAt, List.drop_zero, htake, item_of_lt h, ofBe_be_of_lt h]

theorem drop_item {n off : Nat} (h : n ≤ off) (v : Nat) (bs : List Byte) :
    (item n v ++ bs).drop off = bs.drop (off - n) := by
  rw [List.drop_append, item_length, List.drop_of_length_le (by rw [item_length]; exact h), List.nil_append]

/-! ## The used-days map -/

theorem foldl_or_getLsbD (c : Nat → Bool) (m : Nat → Byte) (js : List Nat) (b : Byte) (i : Nat) :
    (js.foldl (fun b j => if c j then b ||| m j else b) b).getLsbD i =
      (b.getLsbD i || js.any fun j => c j && (m j).getLsbD i) := by
  induction js generalizing b with
  | nil => simp
  | cons j js ih =>
    rw [List.foldl_cons, ih]
    cases hc : c j <;> simp [hc, Bool.or_assoc]

/-- The bit of day `8 k + j` in byte `k` of the map. -/
theorem usedDaysByte_getLsbD (days : List Nat) (k : Nat) {j : Nat} (hj : j < 8) :
    (usedDaysByte days k).getLsbD (7 - j) = days.contains (8 * k + j) := by
  have hbit : ∀ j < 8, ∀ i < 8, (0x80#8 >>> i : Byte).getLsbD (7 - j) = (i == j) := by decide
  rw [usedDaysByte, foldl_or_getLsbD, BitVec.getLsbD_zero, Bool.false_or, Bool.eq_iff_iff, List.any_eq_true]
  simp only [List.mem_range, Bool.and_eq_true]
  constructor
  · rintro ⟨i, hi, hc, hb⟩
    rw [hbit j hj i hi, beq_iff_eq] at hb
    rwa [← hb]
  · exact fun hc => ⟨j, hj, hc, by simp [hbit j hj j hj]⟩

theorem usedDaysMap_length (days : List Nat) : (usedDaysMap days).length = 26 := by simp [usedDaysMap]

/-- Ascending days are read back from their map. -/
theorem usedDaysOf_map {days : List Nat} (hdays : days.Pairwise (· < ·)) (hlast : ∀ d ∈ days, d ≤ 207) :
    usedDaysOf (usedDaysMap days) = days := by
  have hbit (d : Nat) (hd : d < Config.seasonDays) :
      ((usedDaysMap days).getD (d / 8) 0#8).getLsbD (7 - d % 8) = days.contains d := by
    have hd : d < 208 := hd
    have hbyte : (usedDaysMap days).getD (d / 8) 0#8 = usedDaysByte days (d / 8) := by
      simp [usedDaysMap, List.getD_eq_getElem?_getD, List.getElem?_range (show d / 8 < 26 by omega)]
    rw [hbyte, usedDaysByte_getLsbD days _ (Nat.mod_lt d (by decide)), Nat.div_add_mod]
  have hmem (d : Nat) : d ∈ usedDaysOf (usedDaysMap days) ↔ d ∈ days := by
    rw [usedDaysOf, List.mem_filter, List.mem_range]
    constructor
    · rintro ⟨hd, hb⟩
      rw [hbit d hd] at hb
      simpa using hb
    · intro hd
      have hlt : d < Config.seasonDays := Nat.lt_succ_of_le (hlast d hd)
      exact ⟨hlt, by rw [hbit d hlt]; simpa using hd⟩
  have hsorted : (usedDaysOf (usedDaysMap days)).Pairwise (· < ·) := List.pairwise_lt_range.filter _
  exact hsorted.eq_of_mem_iff hdays fun {d} => hmem d

/-! ## The transfer form (R190) -/

/-- The marks of a record: price paid, last passage, refunded twice, origin. -/
theorem bitOf_marks (p l r o : Bool) :
    let marks := (if p then 1 else 0) + (if l then 2 else 0) + (if r then 12 else 0) + (if o then 16 else 0)
    bitOf marks 0 = p ∧ bitOf marks 1 = l ∧ bitOf marks 2 = r ∧ bitOf marks 3 = r ∧ marks < 256 := by
  revert p l r o
  decide

/-- Settles O18: item by item, and the used-days map. -/
theorem transferFormReadsBack : Obligations.TransferFormReadsBack := by
  intro r hserial hproduct hfirst hwindow hrides hprice hpassage hrefund hsorted hlast
  constructor
  · simp only [PassRecord.transferForm, List.length_append, item_length, usedDaysMap_length]
  · obtain ⟨hp, hl, hr, hr', hmarks⟩ :=
      bitOf_marks r.pricePaid.isSome r.lastPassage.isSome r.refund.isSome (decide (r.origin = .admitted))
    simp only [decide_eq_true_eq] at hp hl hr hr' hmarks
    have hpaid : r.pricePaid.getD 0 < 256 ^ 3 := by
      cases h : r.pricePaid with
      | none => decide
      | some v => exact hprice v h
    have hlastPassage : r.lastPassage.getD 0 < 256 ^ 3 := by
      cases h : r.lastPassage with
      | none => decide
      | some v => exact hpassage v h
    have hamount : (r.refund.map Refund.amount).getD 0 < 256 ^ 3 := by
      cases h : r.refund with
      | none => decide
      | some f => exact (hrefund f h).1
    have hday : (r.refund.map Refund.referenceDay).getD 0 < 256 ^ 1 := by
      cases h : r.refund with
      | none => decide
      | some f => exact (hrefund f h).2
    have hserial : r.serial < 256 ^ 5 := hserial
    have hproduct : r.product < 256 ^ 1 := hproduct
    have hfirst : r.firstDay < 256 ^ 1 := hfirst
    have hwindow : r.window < 256 ^ 1 := hwindow
    have hrides : r.ridesToday < 256 ^ 1 := hrides
    have hmarks : _ < 256 ^ 1 := hmarks
    simp only [storedForm, PassRecord.transferForm, List.append_assoc]
    simp only [numberAt_skip, Nat.reduceLeDiff, Nat.reduceSub, numberAt_item, hserial, hproduct, hfirst, hwindow, hmarks,
      hpaid, hrides, hlastPassage, hamount, hday, drop_item, hp, hl, hr, hr', List.drop_zero, usedDaysOf_map hsorted hlast,
      Nat.sub_self, Nat.le_refl]
    cases hpp : r.pricePaid <;> cases hll : r.lastPassage <;> cases hrr : r.refund <;> simp

/-! ## The pass record store's requests (R28 to R33) -/

theorem item_lane (l : Lane.Index) : item 1 (laneNumber l) = be 1 (laneNumber l) :=
  item_of_lt (by simp only [laneNumber]; omega)

theorem refundTest_iff {r : PassRecord} {x : Refund} : s.refundTest r x = true ↔
    ∃ p, lookupProduct s.products.active r.product = some p ∧ 1 ≤ x.amount ∧ p.minimum ≤ x.amount ∧ p.step ∣ x.amount ∧
      x.amount ≤ r.pricePaid.getD p.price ∧ x.referenceDay ≤ 208 := by
  unfold State.refundTest
  cases h : lookupProduct s.products.active r.product with
  | none => simp
  | some p =>
    simp only [decide_eq_true_eq, Option.some.injEq, exists_eq_left', Nat.dvd_iff_mod_eq_zero]
    exact Iff.rfl

theorem forall_mem_getD {o : Option Nat} {b : Nat} : (∀ v ∈ o, v ≤ b) ↔ o.getD 0 ≤ b := by
  cases o <;> simp

/-- The form's fields in range and consistent (R28 check 2, R30). -/
theorem storable_iff {f : StoredForm} : s.storable f = true ↔
    1 ≤ f.record.serial ∧ f.record.firstDay ≤ 207 ∧
      (1 ≤ f.record.window ∧ f.record.window ≤ 14 ∨ f.record.window = 208) ∧
      (∀ d ∈ f.record.usedDays, f.record.firstDay ≤ d ∧ d < f.record.firstDay + f.record.window) ∧
      (∀ v ∈ f.record.pricePaid, v ≤ 999999) ∧ (∀ v ∈ f.record.lastPassage, v ≤ 86399) ∧
      f.refundedState = f.refundPresent ∧
      (∀ x ∈ f.record.refund, ∃ p, lookupProduct s.products.active f.record.product = some p ∧ 1 ≤ x.amount ∧
        p.minimum ≤ x.amount ∧ p.step ∣ x.amount ∧ x.amount ≤ f.record.pricePaid.getD p.price ∧
        x.referenceDay ≤ 208) := by
  rw [State.storable, Bool.and_eq_true, decide_eq_true_eq]
  simp only [forall_mem_getD, ← refundTest_iff]
  have hday (d : Nat) : f.record.inWindow d = true ↔ f.record.firstDay ≤ d ∧ d < f.record.firstDay + f.record.window :=
    decide_eq_true_iff
  constructor
  · rintro ⟨⟨hserial, hfirst, hwindow, hdays, hpaid, hpassage, hstate⟩, hrefund⟩
    refine ⟨Nat.one_le_iff_ne_zero.2 hserial, hfirst, hwindow, fun d hd => (hday d).1 (hdays d hd), hpaid,
      Nat.le_of_lt_succ hpassage, hstate, fun x hx => ?_⟩
    rw [Option.mem_def.1 hx] at hrefund
    exact hrefund
  · rintro ⟨hserial, hfirst, hwindow, hdays, hpaid, hpassage, hstate, hrefund⟩
    refine ⟨⟨Nat.one_le_iff_ne_zero.1 hserial, hfirst, hwindow, fun d hd => (hday d).2 (hdays d hd), hpaid,
      Nat.lt_succ_of_le hpassage, hstate⟩, ?_⟩
    cases hx : f.record.refund with
    | none => rfl
    | some x => exact hrefund x hx

theorem servePassStore_eq {form : List Byte} (hlength : form.length = 47) : servePassStore form s =
    if s.storable (storedForm form) = false then .answered s .badValue s.countItem
    else
      let stored := { s with passes := putPass s.passes (storedForm form).record }
      match s.lookupPass (storedForm form).record.serial with
      | some r =>
        match r.grantLane with
        | some l => .answered s .passInGrant (s.countItem ++ item 1 (laneNumber l))
        | none => .answered stored .ok (item 1 1 ++ stored.countItem)
      | none =>
        if Config.passCapacity ≤ s.passCount then .answered s .tableFull s.countItem
        else .answered stored .ok (item 1 0 ++ stored.countItem) := by
  exact if_neg (by simpa using hlength)

/-- Settles O19: the checks of R28 in their order, and the record put (R29). -/
theorem passStorePutsTheRecord : Obligations.PassStorePutsTheRecord := by
  intro s form h hlength f r fits
  have hfits : s.storable f = true ↔ fits := storable_iff
  have hserve := servePassStore_eq (s := s) hlength
  have hserve_fits (hf : fits) := hserve.trans (if_neg (by rw [hfits.2 hf]; decide))
  have hlookup (hf : fits) : s.lookupPass r.serial = findPass s.passes r.serial := lookupPass_eq_findPass hf.1
  have hput : findPass (putPass s.passes r) r.serial = some r ∧
      ∀ k, k ≠ r.serial → findPass (putPass s.passes r) k = findPass s.passes k :=
    ⟨findPass_putPass_same _ _, fun k hk => findPass_putPass_other _ _ k hk⟩
  refine ⟨fun hnot => ?_, fun old l hf hold hl => ?_, fun hf hnone hfull => ?_, fun old hf hold hl => ?_,
    fun hf hnone hroom => ?_⟩
  · refine answers_of_serve rfl h (hserve.trans (if_pos ?_))
    rw [← Bool.not_eq_true]
    exact fun hs => hnot (hfits.1 hs)
  · refine answers_of_serve rfl h ((hserve_fits hf).trans ?_)
    simp only [f, r] at hold hlookup
    simp only [hlookup hf, hold, hl, item_lane]
    rfl
  · refine answers_of_serve rfl h ((hserve_fits hf).trans ?_)
    simp only [f, r] at hnone hlookup
    simp only [hlookup hf, hnone]
    exact if_pos hfull
  · refine ⟨_, answers_of_serve rfl h ((hserve_fits hf).trans ?_), hput⟩
    simp only [f, r] at hold hlookup
    simp only [hlookup hf, hold, hl]
    rfl
  · refine ⟨_, answers_of_serve rfl h ((hserve_fits hf).trans ?_), putPass_length_of_none hnone, hput⟩
    simp only [f, r] at hnone hlookup
    simp only [hlookup hf, hnone]
    exact if_neg (Nat.not_le.2 hroom)

theorem lookupPass_none {n : Nat} (h : n = 0 ∨ findPass s.passes n = none) : s.lookupPass n = none := by
  unfold State.lookupPass
  split
  · rfl
  · next hn => exact h.resolve_left hn

/-- Settles O20: each request by the lookup. -/
theorem passesFetchedScannedRemoved : Obligations.PassesFetchedScannedRemoved := by
  intro s s4 s3 s2 s1 s0 serial
  have hsome {r : PassRecord} (hserial : 1 ≤ serial) (hr : findPass s.passes serial = some r) :
      s.lookupPass (ofBe [s4, s3, s2, s1, s0]) = some r := (lookupPass_eq_findPass hserial).trans hr
  have hnone (h : serial = 0 ∨ findPass s.passes serial = none) : s.lookupPass (ofBe [s4, s3, s2, s1, s0]) = none :=
    lookupPass_none h
  refine ⟨fun h => ⟨fun r hserial hr => ?_, fun hn => ?_⟩,
    fun h => ⟨fun hn => ?_, fun r l hserial hr hl => ?_, fun r hserial hr hl => ?_⟩, fun count h => ?_⟩
  · exact answers_of_serve rfl h (by simp only [servePassFetch, hsome hserial hr])
  · exact answers_of_serve rfl h (by simp only [servePassFetch, hnone hn]; rfl)
  · exact answers_of_serve rfl h (by simp only [servePassRemove, hnone hn]; rfl)
  · exact answers_of_serve rfl h (by simp only [servePassRemove, hsome hserial hr, hl, item_lane])
  · refine ⟨dropPass s.passes serial, answers_of_serve rfl h ?_, findPass_dropPass_same serial,
      fun k hk => findPass_dropPass_other hk⟩
    simp only [servePassRemove, hsome hserial hr, hl]
    rfl
  · refine answers_of_serve rfl h ?_
    have hcount : item 1 (clampTo 1 8 count.toNat) = be 1 (max 1 (min 8 count.toNat)) :=
      item_of_lt (by simp only [clampTo]; omega)
    simp only [servePassScan, hcount, flag, decide_eq_true_eq]
    rfl

end Sys2Proof.Machine

/-! Gates, windows and holds: the rules for a lane's re-derivation, and what the gate unit's requests leave (R100 to
R110). -/

namespace Sys2Proof.Machine

open Sys2Proof.Safety

variable {s t : State} {l : Lane.Index} {x y : Lane}

/-! ## A lane written, and what follows -/

theorem State.modLane_eq (s : State) (l : Lane.Index) (f : Lane → Lane) : s.modLane l f = s.setLane l (f (s.lane l)) := rfl

@[simp] theorem State.setLane_setLane (s : State) (l : Lane.Index) (x y : Lane) :
    (s.setLane l x).setLane l y = s.setLane l y := by simp [State.setLane]

theorem State.append_setLane (s : State) (body : RecordBody) (l : Lane.Index) (x : Lane) :
    (s.append body).setLane l x = (s.setLane l x).append body := s.append_modLane body l fun _ => x

theorem State.derive_setLane (s : State) (l : Lane.Index) (x : Lane) :
    (s.setLane l x).derive l = s.setLane l (x.derive s.pacing.lift) := by
  rw [State.derive, State.modLane_eq, State.lane_setLane_same, State.setLane_setLane, State.setLane_pacing]

theorem State.derive_eq (s : State) (l : Lane.Index) : s.derive l = s.setLane l ((s.lane l).derive s.pacing.lift) := rfl

theorem State.derive_append (s : State) (body : RecordBody) (l : Lane.Index) :
    (s.append body).derive l = (s.derive l).append body := by
  rw [State.derive_eq, State.append_lane, State.append_pacing, State.append_setLane, State.derive_eq]

theorem State.settle_of_none (h : (s.lane l).grant = none) : s.settle l = s := by simp only [State.settle, h]

theorem State.settle_of_live {g : Grant} (h : (s.lane l).grant = some g) (hlive : g.state ≠ .draining) :
    s.settle l = s := by
  simp only [State.settle, h]
  rw [if_neg fun hd => hlive hd.1]

theorem State.settle_of_gate (h : (s.lane l).gate ≠ .shut) : s.settle l = s := by
  unfold State.settle
  split
  · rfl
  · rw [if_neg fun hd => h hd.2]

theorem State.settle_shut {g : Grant} (h : (s.lane l).grant = some g) (hd : g.state = .draining)
    (hgate : (s.lane l).gate = .shut) : s.settle l = (s.reportCompleted l g).commonEnd l g := by
  simp only [State.settle, h]
  rw [if_pos ⟨hd, hgate⟩]

theorem Lane.derive_grant_none (lift : LiftState) (h : x.grant = none) : (x.derive lift).grant = none := by
  rw [Lane.derive_eq]
  simp only [h, Option.map_none, ite_self]

theorem State.rederive_of_none (h : (s.lane l).grant = none) : s.rederive l = s.derive l :=
  State.settle_of_none (by rw [State.derive_eq, State.lane_setLane_same, Lane.derive_grant_none _ h])

theorem State.rederive_setLane_of_none (s : State) (l : Lane.Index) (h : x.grant = none) :
    (s.setLane l x).rederive l = s.setLane l (x.derive s.pacing.lift) := by
  rw [State.rederive_of_none (by rw [State.lane_setLane_same]; exact h), State.derive_setLane]

/-! ## The gate under a command (R105) -/

theorem FaultSet.any_false {f : FaultSet} : f.any = false ↔ f = { obstruction := false, stuck := false } := by
  obtain ⟨o, k⟩ := f
  cases o <;> cases k <;> simp [FaultSet.any]

theorem FaultSet.any_true {f : FaultSet} : f.any = true ↔ f.obstruction = true ∨ f.stuck = true := by
  simp [FaultSet.any]

theorem Lane.gateAfter_of_fault (h : x.faults.any = true) (c : GateCommand) : x.gateAfter c = x.gate := if_pos h

theorem Lane.gateAfter_of_faultless (h : x.faults.any = false) (c : GateCommand) :
    x.gateAfter c = match c with
      | .openArm => .opened
      | .freeArm => .released
      | .closeArm =>
        match x.gate with
        | .shut => .shut
        | .closing t => .closing t
        | _ => x.closingGate := by
  cases c <;> cases hg : x.gate <;> simp [Lane.gateAfter, h, hg]

/-- Settles O21: the gate's moves command by command. -/
theorem gateMoves : Obligations.GateMoves := by
  refine fun x => ⟨fun h c => Lane.gateAfter_of_fault (FaultSet.any_true.2 h) c, fun h => ?_⟩
  have hmove := Lane.gateAfter_of_faultless (FaultSet.any_false.2 h)
  refine ⟨hmove _, hmove _, fun hg => ?_, fun k hg => ?_, fun hg => ?_⟩
  · simp only [hmove, hg]
  · simp only [hmove, hg]
  · rcases hg with hg | hg <;> simp only [hmove, hg] <;> rfl

/-! ## The derived command (R107) -/

theorem Lane.derivedOpen_iff (lift : LiftState) : x.derivedOpen lift = true ↔
    ∃ g, x.grant = some g ∧ g.state ≠ .draining ∧ x.windowActive = true ∧
      x.faults = { obstruction := false, stuck := false } ∧ (x.settings.pace = .free ∨ lift = .running) := by
  rw [← FaultSet.any_false]
  cases hg : x.grant with
  | none => simp [Lane.derivedOpen, hg]
  | some g => simp [Lane.derivedOpen, hg, Grant.live, and_assoc]

theorem Grant.derive_eq_ite (g : Grant) (b : Bool) :
    g.derive b = if g.state = .draining then g else { g with state := if b then .opened else .waiting } := by
  by_cases h : g.state = .draining <;> simp [Grant.derive, Grant.live, h]

/-- Settles O22: the derivation as what it writes, mode by mode. -/
theorem derivedCommandGoverns : Obligations.DerivedCommandGoverns := by
  intro s l x isOpen
  refine ⟨Lane.derivedOpen_iff _, x.derive s.pacing.lift, rfl, by rw [Lane.derive_eq], fun hm => ?_, fun c hm => ?_,
    fun hm => ?_⟩ <;> rw [Lane.derive_eq]
  · have hserving : x.mode.serving = true := by rcases hm with hm | hm <;> simp [hm, LaneMode.serving]
    simp only [hserving, if_true, Grant.derive_eq_ite, Lane.governing_arm x _ hserving]
    trivial
  · simp [hm, LaneMode.serving, Lane.governing]
  · simp [hm, LaneMode.serving, Lane.governing]

/-! ## Windows (R108 to R110) -/

theorem State.atLane_some {n : Nat} (h : laneOf n = some l) (f : Lane.Index → State) : s.atLane n f = f l := by
  simp only [State.atLane, h]

theorem execWindowOpenAt_due {n : Nat} {k : LaneTimer} (hn : laneOf n = some l) (hk : (s.lane l).timer = some k)
    (hr : k.openReached = false) : exec (.windowOpenAt n) s =
      .next (State.transmit (State.rederive
        ((s.elapse ((s.lane l).effective.openAt - k.t)).modLane l Lane.openReached) l)) := by
  change execWindowOpenAt n s = _
  simp only [execWindowOpenAt, State.atLane_some hn, hk]
  rw [if_neg (by simp [hr])]

theorem execWindowCloseAt_due {n : Nat} {k : LaneTimer} (hn : laneOf n = some l) (hk : (s.lane l).timer = some k)
    (hr : k.closeReached = false) (hp : (s.lane l).settings.pace = .paced) : exec (.windowCloseAt n) s =
      .next (State.transmit (State.rederive
        ((s.elapse ((s.lane l).effective.closeAt - k.t)).modLane l Lane.closeReached) l)) := by
  change execWindowCloseAt n s = _
  simp only [execWindowCloseAt, State.atLane_some hn, hk, hp]
  rw [if_neg (by simp [hr])]

theorem State.elapse_timer {k : LaneTimer} (hk : (s.lane l).timer = some k) (ms : Nat) :
    ((s.elapse ms).lane l).timer = some { k with t := k.t + ms } := by
  simp only [State.elapse_lane, Lane.elapse, hk, Option.map_some]

/-- Settles O23: the window by pace mode and order of its offsets, and the two offset events. -/
theorem windowsActive : Obligations.WindowsActive := by
  refine ⟨fun x => ⟨fun h => by simp only [Lane.windowActive, h], fun t h => ⟨fun hp => ?_, fun hp => ⟨fun hw => ?_,
    fun hw => ?_, fun hw => ?_⟩⟩⟩, fun s n l k hn hk => ⟨fun hr => ?_, fun hr hp => ?_⟩⟩
  · simp [Lane.windowActive, h, hp]
  · simp [Lane.windowActive, h, hp, pacedActive, hw]
  · simp [Lane.windowActive, h, hp, pacedActive, hw, Nat.lt_asymm hw]
  · simp [Lane.windowActive, h, hp, pacedActive, hw]
  · rw [execWindowOpenAt_due hn hk hr, State.modLane_eq, Lane.openReached, State.elapse_timer hk]
    rfl
  · rw [execWindowCloseAt_due hn hk hr hp, State.modLane_eq, Lane.closeReached, State.elapse_timer hk]
    rfl

end Sys2Proof.Machine

/-! Holds and gate commands (R101 to R104), the clearing of faults (R119) and lane reset (R123). -/

namespace Sys2Proof.Machine

open Sys2Proof.Safety

variable {s t : State} {l : Lane.Index} {x y : Lane} {lift : LiftState}

/-! ## A lane without a grant follows its mode's command (R107) -/

theorem Lane.derivedOpen_of_none (h : x.grant = none) : x.derivedOpen lift = false := by
  simp [Lane.derivedOpen, h]

theorem Lane.governing_of_none (h : x.grant = none) : x.governing lift = x.mode.heldCommand.getD .closeArm := by
  unfold Lane.governing
  rw [Lane.derivedOpen_of_none h]
  cases x.mode <;> rfl

theorem Lane.derive_of_none (h : x.grant = none) :
    x.derive lift = { x with gate := x.gateAfter (x.mode.heldCommand.getD .closeArm) } := by
  rw [Lane.derive_eq, Lane.governing_of_none h]
  simp only [h, Option.map_none, ite_self]

theorem State.rederive_setLane_none (s : State) (l : Lane.Index) (h : x.grant = none) :
    (s.setLane l x).rederive l =
      s.setLane l { x with gate := x.gateAfter (x.mode.heldCommand.getD .closeArm) } := by
  rw [State.rederive_setLane_of_none s l h, Lane.derive_of_none h]

theorem State.rederive_append_of_none (s : State) (body : RecordBody) (h : (s.lane l).grant = none) :
    (s.append body).rederive l = (s.rederive l).append body := by
  rw [State.rederive_of_none (by rwa [State.append_lane]), State.derive_append, State.rederive_of_none h]

/-- A gate that has been given a command is where the same command leaves it. -/
theorem Lane.gateAfter_again {z : Lane} {c : GateCommand} (hgate : z.gate = x.gateAfter c)
    (hfaults : z.faults = x.faults) (harm : z.armClosed = x.armClosed) (hlimit : z.settings.closeLimit = x.settings.closeLimit) :
    z.gateAfter c = x.gateAfter c := by
  unfold Lane.gateAfter at hgate ⊢
  rw [hfaults]
  split
  · rename_i hf
    rwa [if_pos hf] at hgate
  · rename_i hf
    rw [if_neg hf] at hgate
    have hclosing : z.closingGate = x.closingGate := by simp only [Lane.closingGate, harm, hlimit]
    cases c with
    | openArm => rfl
    | freeArm => rfl
    | closeArm =>
      rw [hgate]
      cases hx : x.gate with
      | shut => rfl
      | closing k => rfl
      | opened => cases ha : x.armClosed <;> simp [Lane.closingGate, ha]
      | released => cases ha : x.armClosed <;> simp [Lane.closingGate, ha]

theorem Lane.gateAfter_issue (x : Lane) (c : GateCommand) : (x.issue c).gateAfter c = x.gateAfter c :=
  Lane.gateAfter_again (x := x) rfl rfl rfl rfl

/-! ## Holds and gate commands -/

theorem State.hold_of_none (h : (s.lane l).grant = none) : s.hold l =
    (s.setLane l { s.lane l with mode := .held .closeArm, gate := (s.lane l).gateAfter .closeArm }).append
      (.laneEvent l .holdEntered) := by
  have hhold : s.hold l = State.rederive
      ((s.setLane l ((s.lane l).setMode (.held .closeArm))).append (.laneEvent l .holdEntered)) l := by
    simp only [State.hold, h, State.modLane_eq]
  rw [hhold, State.rederive_append_of_none _ _ (by rw [State.lane_setLane_same]; exact h)]
  exact congrArg (fun u => State.append u _)
    (State.rederive_setLane_none s l (x := (s.lane l).setMode (.held .closeArm)) h)

theorem State.hold_of_some {g : Grant} (h : (s.lane l).grant = some g) (hw : (s.lane l).waiting = none) :
    s.hold l = (s.modLane l (Lane.setMode .holdPending)).rederive l := by
  simp only [State.hold, h, hw]

theorem State.hold_of_waiting {g : Grant} {w : Waiting} (h : (s.lane l).grant = some g)
    (hw : (s.lane l).waiting = some w) : s.hold l =
    State.rederive (State.modLane (State.deny (s.modLane l fun x => { x with waiting := none }) l .laneHeld) l
      (Lane.setMode .holdPending)) l := by
  simp only [State.hold, h, hw]

theorem State.unhold_of_none (h : (s.lane l).grant = none) : s.unhold l =
    (s.setLane l { s.lane l with mode := .auto, gate := (s.lane l).gateAfter .closeArm }).append
      (.laneEvent l .holdLeft) := by
  rw [State.unhold, State.modLane_eq, State.rederive_append_of_none _ _ (by rw [State.lane_setLane_same]; exact h)]
  refine congrArg (fun u => State.append u _)
    ((State.rederive_setLane_none s l (x := ((s.lane l).setMode .auto).issue .closeArm) h).trans ?_)
  exact congrArg (fun g => s.setLane l { s.lane l with mode := .auto, gate := g })
    (Lane.gateAfter_again (x := s.lane l) rfl rfl rfl rfl)

theorem item_one {n : Nat} (h : n < 256) : item 1 n = [BitVec.ofNat 8 n] := by
  rw [item_of_lt (by omega)]
  simp [be]

theorem item_code (m : LaneMode) : item 1 m.code = [BitVec.ofNat 8 m.code] :=
  item_one (by cases m <;> simp [LaneMode.code])

theorem serveHold_auto (h : (s.lane l).mode = .auto) :
    serveHold l s = .answered (s.hold l) .ok ((s.hold l).modeItem l) := by simp only [serveHold, h]

theorem ofCode_none_of_le {m : Byte} (h : 3 ≤ m.toNat) : GateCommand.ofCode m = none := by
  unfold GateCommand.ofCode
  rw [if_neg (by rintro rfl; simp at h), if_neg (by rintro rfl; simp at h), if_neg (by rintro rfl; simp at h)]

theorem heldItem_ofCode {m : Byte} {c : GateCommand} (h : GateCommand.ofCode m = some c) :
    heldItem (some c) = [1#8, m] := by
  unfold GateCommand.ofCode at h
  split_ifs at h with h0 h1 h2
  all_goals cases h; subst m; rfl

theorem laneOf_none {n : Nat} (h : ¬(1 ≤ n ∧ n ≤ 8)) : laneOf n = none := dif_neg h

theorem serveGateCommand_badValue {n m : Byte} (h : ¬(1 ≤ n.toNat ∧ n.toNat ≤ 8) ∨ 3 ≤ m.toNat) :
    serveGateCommand [n, m] s = .answered s .badValue [] := by
  rcases h with h | h
  · simp only [serveGateCommand, laneOf_none h]
    rfl
  · simp only [serveGateCommand, ofCode_none_of_le h]
    cases laneOf n.toNat <;> rfl

theorem serveGateCommand_held {n m : Byte} {c d : GateCommand} (hl : laneOf n.toNat = some l)
    (hc : GateCommand.ofCode m = some c) (hm : (s.lane l).mode = .held d) (hg : (s.lane l).grant = none) :
    serveGateCommand [n, m] s =
      .answered (s.setLane l { s.lane l with mode := .held c, gate := (s.lane l).gateAfter c }) .ok
        [1#8, m, BitVec.ofNat 8 ((s.lane l).gateAfter c).code] := by
  have hstate : (s.modLane l (Lane.setMode (.held c))).rederive l =
      s.setLane l { s.lane l with mode := .held c, gate := (s.lane l).gateAfter c } :=
    State.rederive_setLane_none s l (x := (s.lane l).setMode _) hg
  have hgate (g : GateState) : item 1 g.code = [BitVec.ofNat 8 g.code] :=
    item_one (by cases g <;> simp [GateState.code])
  simp only [serveGateCommand, hl, hc, hm, hstate, heldItem_ofCode hc, State.lane_setLane_same, hgate]
  rfl

theorem serveGateCommand_notHeld {n m : Byte} {c : GateCommand} (hl : laneOf n.toNat = some l)
    (hc : GateCommand.ofCode m = some c) (hm : ∀ d, (s.lane l).mode ≠ .held d) :
    serveGateCommand [n, m] s = .answered s .laneState [] := by
  cases hmode : (s.lane l).mode with
  | held d => exact absurd hmode (hm d)
  | auto => simp only [serveGateCommand, hl, hc, hmode, Served.refuse]
  | holdPending => simp only [serveGateCommand, hl, hc, hmode, Served.refuse]
  | disabled => simp only [serveGateCommand, hl, hc, hmode, Served.refuse]

/-- Settles O24: each request by the lane's mode. -/
theorem holdsAndGateCommands : Obligations.HoldsAndGateCommands := by
  refine ⟨fun s n m h hbad => answers_of_serve rfl h (serveGateCommand_badValue hbad), fun s n l hl => ?_⟩
  refine ⟨fun h => ⟨fun hm hg => ?_, fun g hm hg hw => ⟨_, rfl, ?_⟩, fun g w hm hg hw => ⟨_, rfl, ?_⟩, fun hm => ?_,
    fun c hm => ?_, fun hm => ?_⟩, fun h => ⟨fun c hm hg => ?_, fun hm => ⟨_, rfl, ?_⟩, fun hm => ?_, fun hm => ?_⟩,
    fun m c hc h => ⟨fun d hm hg => ?_, fun hm => ?_⟩⟩
  · refine answers_of_serveLane rfl h hl ?_
    rw [serveHold_auto hm, State.modeItem, item_code, State.hold_of_none hg, State.append_lane,
      State.lane_setLane_same]
    rfl
  · refine answers_of_serveLane rfl h hl ?_
    rw [serveHold_auto hm, State.modeItem, item_code, State.hold_of_some hg hw]
    rfl
  · refine answers_of_serveLane rfl h hl ?_
    rw [serveHold_auto hm, State.modeItem, item_code, State.hold_of_waiting hg hw]
    rfl
  · exact answers_of_serveLane rfl h hl (by simp only [serveHold, hm, State.modeItem, item_code]; rfl)
  · exact answers_of_serveLane rfl h hl (by simp only [serveHold, hm, State.modeItem, item_code]; rfl)
  · exact answers_of_serveLane rfl h hl (by simp only [serveHold, hm]; rfl)
  · refine answers_of_serveLane rfl h hl ?_
    simp only [serveRelease, hm]
    rw [State.modeItem, item_code, State.unhold_of_none hg, State.append_lane, State.lane_setLane_same]
    rfl
  · refine answers_of_serveLane rfl h hl ?_
    simp only [serveRelease, hm]
    rw [State.modeItem, item_code]
    rfl
  · exact answers_of_serveLane rfl h hl (by simp only [serveRelease, hm, State.modeItem, item_code]; rfl)
  · exact answers_of_serveLane rfl h hl (by simp only [serveRelease, hm]; rfl)
  · exact answers_of_serve rfl h (serveGateCommand_held hl hc hm hg)
  · exact answers_of_serve rfl h (serveGateCommand_notHeld hl hc hm)

end Sys2Proof.Machine

/-! The clearing of faults (R116, R119). -/

namespace Sys2Proof.Machine

open Sys2Proof.Safety

variable {s t : State} {l : Lane.Index} {x y : Lane} {lift : LiftState}

/-! ## Records appended in a row -/

theorem State.foldl_append_lane (bodies : List RecordBody) (s : State) (k : Lane.Index) :
    (bodies.foldl State.append s).lane k = s.lane k :=
  List.foldlRecOn (motive := fun u : State => u.lane k = s.lane k) bodies _ rfl fun u hu b _ => by rw [State.append_lane, hu]

theorem State.foldl_append_pacing (bodies : List RecordBody) (s : State) :
    (bodies.foldl State.append s).pacing = s.pacing :=
  List.foldlRecOn (motive := fun u : State => u.pacing = s.pacing) bodies _ rfl fun u hu b _ => by rw [State.append_pacing, hu]

theorem State.foldl_append_setLane (bodies : List RecordBody) (s : State) (l : Lane.Index) (x : Lane) :
    (bodies.foldl State.append s).setLane l x = bodies.foldl State.append (s.setLane l x) := by
  induction bodies generalizing s with
  | nil => rfl
  | cons b bs ih => rw [List.foldl_cons, ih, State.append_setLane, List.foldl_cons]

/-! ## A lane that its derivation leaves as it is (R107) -/

/-- The derived command is where it was, and no grant is DRAINING. -/
def Lane.Derived (lift : LiftState) (x : Lane) : Prop :=
  x.derive lift = x ∧ ∀ g, x.grant = some g → g.state ≠ .draining

theorem Grant.derive_derive (g : Grant) (b : Bool) : (g.derive b).derive b = g.derive b := by
  simp only [Grant.derive_eq_ite]
  split
  · rfl
  · cases b <;> simp

theorem Grant.derive_ne_draining {g : Grant} (h : g.state ≠ .draining) (b : Bool) :
    (g.derive b).state ≠ .draining := by
  rw [Grant.derive_eq_ite, if_neg h]
  cases b <;> simp

theorem Lane.derive_derive (x : Lane) (lift : LiftState) : (x.derive lift).derive lift = x.derive lift := by
  have hopen := Lane.derive_derivedOpen x lift lift
  have hgoverning : (x.derive lift).governing lift = x.governing lift :=
    Lane.governing_congr (by rw [Lane.derive_eq]) hopen
  have hgate : (x.derive lift).gateAfter (x.governing lift) = (x.derive lift).gate := by
    rw [Lane.gateAfter_again (x := x) (c := x.governing lift)] <;> rw [Lane.derive_eq]
  rw [Lane.derive_eq (x.derive lift), hgoverning, hopen, hgate]
  rw [Lane.derive_eq x]
  cases x.mode.serving <;> simp [Grant.derive_derive, Function.comp_def]

theorem Lane.derived_derive (h : ∀ g, x.grant = some g → g.state ≠ .draining) : (x.derive lift).Derived lift := by
  refine ⟨Lane.derive_derive x lift, fun g hg => ?_⟩
  rw [Lane.derive_eq] at hg
  simp only at hg
  split at hg
  · obtain ⟨g', hg', rfl⟩ := Option.map_eq_some_iff.1 hg
    exact Grant.derive_ne_draining (h g' hg') _
  · exact h g hg

/-- The derivation does not look at the waiting slot, the reader context and the counters. -/
theorem Lane.Derived.of_same (h : x.Derived lift) (w : Option Waiting) (r : ReaderContext) (c : Counts) :
    ({ x with waiting := w, reader := r, counts := c } : Lane).Derived lift := by
  obtain ⟨hx, hg⟩ := h
  refine ⟨?_, hg⟩
  rw [Lane.derive_eq] at hx ⊢
  exact congrArg (fun z : Lane => { z with waiting := w, reader := r, counts := c }) hx

theorem State.rederive_of_derived (h : (s.lane l).Derived s.pacing.lift) : s.rederive l = s := by
  obtain ⟨hx, hg⟩ := h
  have hderive : s.derive l = s := by rw [State.derive_eq, hx, State.setLane_lane]
  rw [State.rederive, hderive]
  cases hgrant : (s.lane l).grant with
  | none => exact State.settle_of_none hgrant
  | some g => exact State.settle_of_live hgrant (hg g hgrant)

theorem derived_deny (h : (s.lane l).Derived s.pacing.lift) (r : DenialReason) :
    ((s.deny l r).lane l).Derived (s.deny l r).pacing.lift := by
  rw [State.deny_lane]
  exact h.of_same _ _ _

theorem derived_grantAt (s : State) (l : Lane.Index) (sub : Subject) (p : Product) :
    ((s.grantAt l sub p).lane l).Derived (s.grantAt l sub p).pacing.lift := by
  simp only [State.grantAt_eq, State.derive_eq, State.lane_setLane_same, State.setLane_pacing]
  refine Lane.derived_derive fun g hg => ?_
  have hplaced : ∀ u : State, (u.lane l).grant = some (newGrant s l sub p) →
      ((State.handVerdict (u.count l fun c => { c with grants := satInc c.grants }) l (.grant p.riders)).lane l).grant =
        some (newGrant s l sub p) := fun u hu => by
    simp only [State.handVerdict, State.count, State.lane_modLane_same, hu]
  rw [hplaced _ (by split <;> simp [Lane.place_eq])] at hg
  cases hg
  simp [newGrant]

theorem derived_decideTap (h : (s.lane l).Derived s.pacing.lift) (tap : Tap) :
    ((s.decideTap l tap).lane l).Derived (s.decideTap l tap).pacing.lift := by
  unfold State.decideTap
  split
  · exact derived_grantAt s l _ _
  · refine derived_deny ?_ _
    split
    · rwa [State.append_lane, State.append_pacing]
    · exact h

theorem derived_takeUp (h : (s.lane l).Derived s.pacing.lift) :
    ((s.takeUp l).lane l).Derived (s.takeUp l).pacing.lift := by
  cases hw : (s.lane l).waiting with
  | none => simpa only [State.takeUp, hw] using h
  | some w =>
    have hempty : ((s.modLane l fun x => { x with waiting := none }).lane l).Derived s.pacing.lift := by
      rw [State.lane_modLane_same]
      exact h.of_same none _ _
    simp only [State.takeUp, hw]
    split
    · rw [State.handVerdict, State.lane_modLane_same]
      exact hempty.of_same _ _ _
    · exact derived_decideTap hempty _

theorem rederive_commonEnd (s : State) (l : Lane.Index) (g : Grant) :
    (s.commonEnd l g).rederive l = s.commonEnd l g := by
  refine State.rederive_of_derived (derived_takeUp ?_)
  rw [State.derive_eq, State.lane_setLane_same, State.setLane_pacing]
  refine Lane.derived_derive fun g' hg' => ?_
  rw [endHold_grant, State.release_lane_same, Lane.vacate_eq] at hg'
  cases hg'

/-- A derivation after a settling is a settling after the derivation, where the grant that settles follows already. -/
theorem State.settle_rederive (h : ∀ g, (s.lane l).grant = some g → g.state = .draining → (s.lane l).gate = .shut →
    s.derive l = s) : (s.settle l).rederive l = (s.derive l).settle l := by
  cases hg : (s.lane l).grant with
  | none => rw [State.settle_of_none hg, State.rederive]
  | some g =>
    by_cases hd : g.state = .draining ∧ (s.lane l).gate = .shut
    · obtain ⟨hdraining, hgate⟩ := hd
      rw [h g hg hdraining hgate, State.settle_shut hg hdraining hgate, rederive_commonEnd]
    · have hsettle : s.settle l = s := by simp only [State.settle, hg, if_neg hd]
      rw [hsettle, State.rederive]

/-! ## The clearing -/

/-- What the clearing writes before the derivation: over an empty fault set, a close is issued. -/
def Lane.cleared (x : Lane) (k : FaultSet) : Lane :=
  if (x.faults.remove k).any then x.clearFaults k else (x.clearFaults k).issue .closeArm

theorem Lane.closed_of_draining {g : Grant} (hg : x.grant = some g) (hd : g.state = .draining)
    (hm : x.mode = .auto ∨ x.mode = .holdPending) :
    (x.issue .closeArm).derive lift = x.issue .closeArm := by
  have hserving : x.mode.serving = true := by rcases hm with hm | hm <;> rw [hm] <;> rfl
  have hopen : (x.issue .closeArm).derivedOpen lift = false := by simp [Lane.derivedOpen, Lane.issue, hg, Grant.live, hd]
  have hgoverning : (x.issue .closeArm).governing lift = .closeArm := by
    rw [Lane.governing_arm (x.issue .closeArm) lift hserving, hopen]
    rfl
  have hgrant : x.grant.map (fun g => g.derive false) = x.grant := by simp [hg, Grant.derive_eq_ite, hd]
  rw [Lane.derive_eq, hgoverning, hopen, Lane.gateAfter_issue]
  simp only [Lane.issue, hserving, if_true, hgrant]

theorem Lane.cleared_eq (x : Lane) (k : FaultSet) : x.cleared k = { x.clearFaults k with gate := (x.cleared k).gate } := by
  unfold Lane.cleared
  split <;> rfl

theorem Lane.cleared_derivedOpen (x : Lane) (k : FaultSet) :
    (x.cleared k).derivedOpen lift = (x.clearFaults k).derivedOpen lift := by
  rw [Lane.cleared_eq]
  rfl

/-- Whether the lane's window, its lift and the faults left let a grant be OPEN (R107, R119). -/
abbrev Lane.OpensAfter (x : Lane) (k : FaultSet) (lift : LiftState) : Prop :=
  x.faults.remove k = { obstruction := false, stuck := false } ∧ x.windowActive = true ∧
    (x.settings.pace = .free ∨ lift = .running)

theorem Lane.clearFaults_derivedOpen (x : Lane) (k : FaultSet) (lift : LiftState) :
    (x.clearFaults k).derivedOpen lift = true ↔
      x.grant.any (fun g => decide (g.state ≠ .draining)) = true ∧ x.OpensAfter k lift := by
  rw [Lane.derivedOpen_iff]
  change (∃ g, x.grant = some g ∧ g.state ≠ .draining ∧ x.windowActive = true ∧ x.faults.remove k = _ ∧ _) ↔ _
  cases x.grant with
  | none => simp
  | some g => simp; tauto

theorem Lane.gateAfter_close_eq (h : x.faults.any = false) : x.gateAfter .closeArm =
    match x.gate with
      | .shut => .shut
      | .closing t => .closing t
      | _ => if x.armClosed then .shut else .closing { elapsed := 0, limit := x.settings.closeLimit } := by
  rw [Lane.gateAfter_of_faultless h]
  cases x.gate <;> rfl

theorem clearedLane_grant (hm : x.grant.isSome = true → x.mode = .auto ∨ x.mode = .holdPending) (k : FaultSet) :
    (clearedLane lift x k).grant = ((x.cleared k).derive lift).grant := by
  have hopen := Lane.clearFaults_derivedOpen x k lift
  rw [Lane.derive_eq, Lane.cleared_derivedOpen, Lane.cleared_eq]
  change x.grant.map (fun g => if g.state = .draining then g
    else { g with state := if x.OpensAfter k lift then .opened else .waiting }) =
      if x.mode.serving then x.grant.map _ else x.grant
  cases hg : x.grant with
  | none => simp
  | some g =>
    have hserving : x.mode.serving = true := by rcases hm (by simp [hg]) with hm | hm <;> rw [hm] <;> rfl
    rw [if_pos hserving, Option.map_some, Option.map_some, Grant.derive_eq_ite]
    by_cases hd : g.state = .draining
    · rw [if_pos hd, if_pos hd]
    · have hiff : (x.clearFaults k).derivedOpen lift = true ↔ x.OpensAfter k lift := by simp [hopen, hg, hd]
      simp only [if_neg hd, hiff]

theorem Lane.gateAfter_issue_close (h : x.faults.any = false) (c : GateCommand) :
    (x.issue .closeArm).gateAfter c = x.gateAfter c := by
  have h' : (x.issue .closeArm).faults.any = false := h
  cases c with
  | closeArm => exact Lane.gateAfter_issue x .closeArm
  | openArm => rw [Lane.gateAfter_of_faultless h', Lane.gateAfter_of_faultless h]
  | freeArm => rw [Lane.gateAfter_of_faultless h', Lane.gateAfter_of_faultless h]

theorem clearedLane_gate (x : Lane) (lift : LiftState) (k : FaultSet) :
    (clearedLane lift x k).gate = ((x.cleared k).derive lift).gate := by
  have hopen := Lane.clearFaults_derivedOpen x k lift
  rw [Lane.derive_eq]
  cases hf : (x.faults.remove k).any with
  | true =>
    have hleft : ¬x.faults.remove k = { obstruction := false, stuck := false } := fun h => by simp [h, FaultSet.any] at hf
    have hcleared : x.cleared k = x.clearFaults k := if_pos hf
    rw [hcleared]
    change (if x.faults.remove k = _ then _ else x.gate) = (x.clearFaults k).gateAfter _
    rw [if_neg hleft, Lane.gateAfter_of_fault (show (x.clearFaults k).faults.any = true from hf)]
    rfl
  | false =>
    have hcleared : x.cleared k = (x.clearFaults k).issue .closeArm := if_neg (by simp [hf])
    have hfaults : (x.clearFaults k).faults.any = false := hf
    have hclose := Lane.gateAfter_close_eq hfaults
    have harm : (x.clearFaults k).gateAfter (if (x.clearFaults k).derivedOpen lift then .openArm else .closeArm) =
        if x.grant.any (fun g => decide (g.state ≠ .draining)) = true ∧ x.OpensAfter k lift then .opened
        else (x.clearFaults k).gateAfter .closeArm := by
      simp only [hopen]
      split
      · exact Lane.gateAfter_of_faultless hfaults _
      · rfl
    rw [hcleared]
    change (if x.faults.remove k = _ then _ else x.gate) =
      ((x.clearFaults k).issue .closeArm).gateAfter ((x.clearFaults k).governing lift)
    rw [if_pos (FaultSet.any_false.1 hf), Lane.gateAfter_issue_close hfaults]
    cases hm : x.mode with
    | auto =>
      rw [Lane.governing_arm (x.clearFaults k) lift (by simp [Lane.clearFaults, hm, LaneMode.serving]), harm, hclose]
      rfl
    | holdPending =>
      rw [Lane.governing_arm (x.clearFaults k) lift (by simp [Lane.clearFaults, hm, LaneMode.serving]), harm, hclose]
      rfl
    | disabled =>
      have hgoverning : (x.clearFaults k).governing lift = .closeArm := by simp [Lane.governing, Lane.clearFaults, hm]
      rw [hgoverning, hclose]
      rfl
    | held c =>
      have hgoverning : (x.clearFaults k).governing lift = c := by simp [Lane.governing, Lane.clearFaults, hm]
      rw [hgoverning]
      cases c with
      | closeArm =>
        rw [hclose]
        rfl
      | openArm => exact (Lane.gateAfter_of_faultless hfaults .openArm).symm
      | freeArm => exact (Lane.gateAfter_of_faultless hfaults .freeArm).symm

theorem clearedLane_eq (hm : x.grant.isSome = true → x.mode = .auto ∨ x.mode = .holdPending) (k : FaultSet) :
    clearedLane lift x k = (x.cleared k).derive lift :=
  calc clearedLane lift x k
    _ = { x.clearFaults k with grant := (clearedLane lift x k).grant, gate := (clearedLane lift x k).gate } := rfl
    _ = { x.clearFaults k with
          grant := ((x.cleared k).derive lift).grant, gate := ((x.cleared k).derive lift).gate } := by
        rw [clearedLane_grant hm, clearedLane_gate]
    _ = (x.cleared k).derive lift := by
        rw [Lane.derive_eq, Lane.cleared_eq]

/-- The records of a clearing (R119). -/
def clearedRecords (l : Lane.Index) (f k : FaultSet) : List RecordBody :=
  (if f.obstruction && k.obstruction then [.laneEvent l (.faultCleared .obstruction)] else []) ++
    (if f.stuck && k.stuck then [.laneEvent l (.faultCleared .stuck)] else [])

theorem foldl_kinds (l : Lane.Index) (f k : FaultSet) (s : State) :
    (FaultSet.kinds { obstruction := f.obstruction && k.obstruction, stuck := f.stuck && k.stuck }).foldl
      (fun s kind => s.append (.laneEvent l (.faultCleared kind))) s = (clearedRecords l f k).foldl State.append s := by
  unfold FaultSet.kinds clearedRecords
  cases f.obstruction && k.obstruction <;> cases f.stuck && k.stuck <;> rfl

theorem State.clearFaults_eq (s : State) (l : Lane.Index) (k : FaultSet) :
    s.clearFaults l k = State.rederive
      (let noted := (clearedRecords l (s.lane l).faults k).foldl State.append (s.setLane l ((s.lane l).cleared k))
        if ((s.lane l).faults.remove k).any then noted else noted.settle l) l := by
  have hfaults : (((clearedRecords l (s.lane l).faults k).foldl State.append
      (s.modLane l fun x => x.clearFaults k)).lane l).faults = (s.lane l).faults.remove k := by
    rw [State.foldl_append_lane, State.lane_modLane_same]
    rfl
  rw [State.clearFaults]
  simp only [foldl_kinds, hfaults]
  by_cases hf : ((s.lane l).faults.remove k).any = true
  · rw [if_pos hf, if_pos hf, Lane.cleared, if_pos hf]
    rfl
  · rw [if_neg hf, if_neg hf, Lane.cleared, if_neg hf, State.modLane_eq, State.foldl_append_setLane,
      State.foldl_append_lane, State.modLane_eq, State.setLane_setLane, State.lane_setLane_same]

theorem clearFaults_eq_faultsCleared (k : FaultSet)
    (hm : (s.lane l).grant.isSome = true → (s.lane l).mode = .auto ∨ (s.lane l).mode = .holdPending) :
    s.clearFaults l k = faultsCleared s l k := by
  have hderive : State.derive ((clearedRecords l (s.lane l).faults k).foldl State.append
      (s.setLane l ((s.lane l).cleared k))) l = (clearedRecords l (s.lane l).faults k).foldl State.append
        (s.setLane l (clearedLane s.pacing.lift (s.lane l) k)) := by
    rw [State.derive_eq, State.foldl_append_lane, State.lane_setLane_same, State.foldl_append_pacing,
      State.setLane_pacing, State.foldl_append_setLane, State.setLane_setLane, clearedLane_eq hm]
  have hcleared : faultsCleared s l k = State.settle (State.derive ((clearedRecords l (s.lane l).faults k).foldl
      State.append (s.setLane l ((s.lane l).cleared k))) l) l := by
    rw [hderive]
    rfl
  rw [State.clearFaults_eq, hcleared]
  simp only []
  split
  · rfl
  · rename_i hf
    refine State.settle_rederive fun g hg hd _ => ?_
    rw [hderive]
    rw [State.foldl_append_lane, State.lane_setLane_same, Lane.cleared, if_neg hf] at hg
    rw [clearedLane_eq hm, Lane.cleared, if_neg hf, Lane.closed_of_draining (x := (s.lane l).clearFaults k) hg hd
      (hm (by rw [show (s.lane l).grant = some g from hg]; rfl))]

/-! ## FAULT_CLEAR -/

theorem Lane.faultItem_eq (x : Lane) :
    item 1 x.faults.code = fields [(1, oneBit x.faults.obstruction + 2 * oneBit x.faults.stuck)] := by
  have hcode : x.faults.code = oneBit x.faults.obstruction + 2 * oneBit x.faults.stuck := by
    obtain ⟨o, k⟩ := x.faults
    cases o <;> cases k <;> rfl
  rw [hcode, fields_cons, fields_nil, List.append_nil]

/-- The fault set and the re-arming of a lane. -/
def State.faultPart (s : State) (l : Lane.Index) : FaultSet × Rearm := ((s.lane l).faults, (s.lane l).rearm)

theorem State.modLane_faultPart {f : Lane → Lane} (s : State) (l : Lane.Index)
    (h : ∀ x, (f x).faults = x.faults ∧ (f x).rearm = x.rearm) : (s.modLane l f).faultPart l = s.faultPart l := by
  simp only [State.faultPart, State.lane_modLane_same, h]

theorem State.count_faultPart (s : State) (l : Lane.Index) (f : Counts → Counts) :
    (s.count l f).faultPart l = s.faultPart l := State.modLane_faultPart s l fun _ => ⟨rfl, rfl⟩

theorem State.handVerdict_faultPart (s : State) (l : Lane.Index) (v : Verdict) :
    (s.handVerdict l v).faultPart l = s.faultPart l := State.modLane_faultPart s l fun _ => ⟨rfl, rfl⟩

theorem State.empty_faultPart (s : State) (l : Lane.Index) :
    (s.modLane l fun x => { x with waiting := none }).faultPart l = s.faultPart l :=
  State.modLane_faultPart s l fun _ => ⟨rfl, rfl⟩

theorem State.append_faultPart (s : State) (b : RecordBody) (l : Lane.Index) :
    (s.append b).faultPart l = s.faultPart l := by simp only [State.faultPart, State.append_lane]

theorem State.derive_faultPart (s : State) (l : Lane.Index) : (s.derive l).faultPart l = s.faultPart l :=
  State.modLane_faultPart s l fun x => by simp [Lane.derive_eq]

theorem State.deny_faultPart (s : State) (l : Lane.Index) (r : DenialReason) :
    (s.deny l r).faultPart l = s.faultPart l := by simp only [State.faultPart, State.deny_lane]

theorem State.grantAt_faultPart (s : State) (l : Lane.Index) (sub : Subject) (p : Product) :
    (s.grantAt l sub p).faultPart l = s.faultPart l := by
  rw [State.grantAt_eq]
  simp only [State.derive_faultPart, State.handVerdict_faultPart, State.count_faultPart]
  have hlock : (s.lock l sub).faultPart l = s.faultPart l := by
    unfold State.lock State.faultPart
    split <;> rfl
  have hplaced : ((s.lock l sub).modLane l fun x => x.place (newGrant s l sub p)).faultPart l = s.faultPart l :=
    (State.modLane_faultPart _ l fun x => by simp [Lane.place_eq]).trans hlock
  split
  · rw [State.append_faultPart, hplaced]
  · exact hplaced

theorem State.decideTap_faultPart (s : State) (l : Lane.Index) (tap : Tap) :
    (s.decideTap l tap).faultPart l = s.faultPart l := by
  unfold State.decideTap
  split
  · exact State.grantAt_faultPart s l _ _
  · rw [State.deny_faultPart]
    split
    · exact State.append_faultPart ..
    · rfl

theorem State.takeUp_faultPart (s : State) (l : Lane.Index) : (s.takeUp l).faultPart l = s.faultPart l := by
  unfold State.takeUp
  split
  · rfl
  · simp only []
    split
    · rw [State.handVerdict_faultPart, State.empty_faultPart]
    · rw [State.decideTap_faultPart, State.empty_faultPart]

theorem State.endHold_faultPart (s : State) (l : Lane.Index) : (s.endHold l).faultPart l = s.faultPart l := by
  unfold State.endHold
  split
  · exact (State.append_faultPart ..).trans (State.modLane_faultPart s l fun _ => ⟨rfl, rfl⟩)
  · rfl

theorem State.settle_faultPart (s : State) (l : Lane.Index) : (s.settle l).faultPart l = s.faultPart l := by
  unfold State.settle
  split
  · rfl
  · split
    · rename_i g _ _
      have hreport : (s.reportCompleted l g).faultPart l = s.faultPart l :=
        (State.append_faultPart ..).trans (State.count_faultPart ..)
      have hrelease : ((s.reportCompleted l g).release l g).faultPart l = s.faultPart l := by
        rw [← hreport, State.faultPart, State.faultPart, State.release_lane_same, Lane.vacate_eq]
      rw [State.commonEnd, State.takeUp_faultPart, State.derive_faultPart, State.endHold_faultPart, hrelease]
    · rfl

theorem State.rederive_faultPart (s : State) (l : Lane.Index) : (s.rederive l).faultPart l = s.faultPart l :=
  (State.settle_faultPart ..).trans (State.derive_faultPart ..)

/-- What a clearing leaves of the lane's faults (R119). -/
theorem State.clearFaults_faultPart (s : State) (l : Lane.Index) (k : FaultSet) : (s.clearFaults l k).faultPart l =
    ((s.lane l).faults.remove k, if k.obstruction then .idle else (s.lane l).rearm) := by
  rw [State.clearFaults_eq, State.rederive_faultPart]
  have hnoted : State.faultPart ((clearedRecords l (s.lane l).faults k).foldl State.append
      (s.setLane l ((s.lane l).cleared k))) l =
        ((s.lane l).faults.remove k, if k.obstruction then .idle else (s.lane l).rearm) := by
    rw [State.faultPart, State.foldl_append_lane, State.lane_setLane_same, Lane.cleared_eq]
    rfl
  simp only []
  split
  · exact hnoted
  · rw [State.settle_faultPart, hnoted]

theorem State.clearFaults_all (s : State) (l : Lane.Index) :
    ((s.clearFaults l .all).lane l).faults = { obstruction := false, stuck := false } ∧
      ((s.clearFaults l .all).lane l).rearm = .idle := by
  have h := State.clearFaults_faultPart s l .all
  simp only [FaultSet.remove, FaultSet.all, Bool.not_true, Bool.and_false, if_true, State.faultPart, Prod.mk.injEq] at h
  exact h

/-- Settles O25: the clearing written out, and FAULT_CLEAR's three answers. -/
theorem faultsCleared_holds : Obligations.FaultsCleared := by
  refine ⟨fun s l k hm => clearFaults_eq_faultsCleared k hm, fun s n l hl h => ⟨fun hf => ?_, fun hf ha => ?_,
    fun hf ha => ⟨s.clearFaults l .all, ?_, (State.clearFaults_all s l).1, (State.clearFaults_all s l).2, fun j hj =>
      ((LocalTo.refl l s).clearFaults .all).lane j hj, fun hm => clearFaults_eq_faultsCleared _ hm⟩⟩⟩
  · refine answers_of_serveLane rfl h hl ?_
    rw [serveFaultClear, if_pos (FaultSet.any_false.2 hf), State.faultItem, hf]
    exact congrArg _ (item_one (n := 0) (by decide))
  · refine answers_of_serveLane rfl h hl ?_
    rw [serveFaultClear, if_neg (by simp [FaultSet.any_true.2 hf]), if_pos ha, State.faultItem, Lane.faultItem_eq]
  · refine answers_of_serveLane rfl h hl ?_
    rw [serveFaultClear, if_neg (by simp [FaultSet.any_true.2 hf]), if_neg (by simp [ha]), State.faultItem,
      (State.clearFaults_all s l).1]
    exact congrArg _ (item_one (n := 0) (by decide))

end Sys2Proof.Machine

/-! The written form of an event at a lane: the lane, the pass usage table and the records appended; and with it lane reset
(R96, R123). -/

namespace Sys2Proof.Machine

open Sys2Proof.Safety

variable {s t : State} {l : Lane.Index} {x y : Lane} {ps : List PassRecord} {bodies : List RecordBody}

/-! ## An append beside other blocks (R179) -/

theorem State.append_setPasses (s : State) (b : RecordBody) (ps : List PassRecord) :
    { (s.append b) with passes := ps } = State.append { s with passes := ps } b := by
  by_cases hroom : s.reports.records.length < Config.reportCapacity
  · by_cases hmark : s.reports.records.length + 1 = Config.backlogMark <;>
      simp only [State.append, State.raise, hroom, hmark, if_true, if_false]
  · simp only [State.append, State.raise, hroom, if_false]

theorem State.foldl_append_setPasses (bodies : List RecordBody) (s : State) (ps : List PassRecord) :
    { (bodies.foldl State.append s) with passes := ps } = bodies.foldl State.append { s with passes := ps } := by
  induction bodies generalizing s with
  | nil => rfl
  | cons b bs ih =>
    exact (ih (s.append b)).trans (congrArg (fun u => bs.foldl State.append u) (State.append_setPasses s b ps))

/-! ## An event at a lane, written out -/

/-- A lane and the pass usage table written, and records appended. -/
def State.written (s : State) (l : Lane.Index) (x : Lane) (ps : List PassRecord) (bodies : List RecordBody) : State :=
  bodies.foldl State.append { s.setLane l x with passes := ps }

theorem State.written_start (s : State) (l : Lane.Index) : s.written l (s.lane l) s.passes [] = s := by
  change s.setLane l (s.lane l) = s
  exact State.setLane_lane s l

@[simp] theorem State.written_lane : (s.written l x ps bodies).lane l = x := by
  rw [State.written, State.foldl_append_lane]
  exact State.lane_setLane_same s l x

@[simp] theorem State.written_passes : (s.written l x ps bodies).passes = ps :=
  List.foldlRecOn (motive := fun u : State => u.passes = ps) bodies _ rfl fun u hu b _ => by rw [State.append_passes, hu]

@[simp] theorem State.written_pacing : (s.written l x ps bodies).pacing = s.pacing :=
  State.foldl_append_pacing bodies _

@[simp] theorem State.written_setLane : (s.written l x ps bodies).setLane l y = s.written l y ps bodies := by
  rw [State.written, State.foldl_append_setLane, State.written]
  have h : ({ s.setLane l x with passes := ps } : State).setLane l y = { s.setLane l y with passes := ps } := by
    have hxy := State.setLane_setLane s l x y
    exact congrArg (fun u : State => { u with passes := ps }) hxy
  rw [h]

@[simp] theorem State.written_modLane (f : Lane → Lane) :
    (s.written l x ps bodies).modLane l f = s.written l (f x) ps bodies := by
  rw [State.modLane_eq, State.written_lane, State.written_setLane]

@[simp] theorem State.written_count (f : Counts → Counts) :
    (s.written l x ps bodies).count l f = s.written l { x with counts := f x.counts } ps bodies :=
  State.written_modLane _

@[simp] theorem State.written_handVerdict (v : Verdict) :
    (s.written l x ps bodies).handVerdict l v = s.written l { x with reader := x.reader.hand v } ps bodies :=
  State.written_modLane _

@[simp] theorem State.written_append (b : RecordBody) :
    (s.written l x ps bodies).append b = s.written l x ps (bodies ++ [b]) := by
  rw [State.written, State.written, List.foldl_append]
  rfl

theorem State.written_setPasses (qs : List PassRecord) :
    { s.written l x ps bodies with passes := qs } = s.written l x qs bodies :=
  State.foldl_append_setPasses bodies _ qs

@[simp] theorem State.written_setGrantLane (serial : Nat) (k : Option Lane.Index) :
    (s.written l x ps bodies).setGrantLane serial k =
      s.written l x (changePass ps serial fun r => { r with grantLane := k }) bodies := by
  rw [State.setGrantLane, State.written_setPasses, State.written_passes]

@[simp] theorem State.written_release (g : Grant) : (s.written l x ps bodies).release l g =
    s.written l x.vacate (changePass ps g.serial fun r => { r with grantLane := none }) bodies := by
  rw [State.release, State.written_setGrantLane, State.written_modLane]

/-- The HOLD_ENTERED of a hold that ends (R102). -/
def heldRecords (l : Lane.Index) (m : LaneMode) : List RecordBody :=
  if m = .holdPending then [.laneEvent l .holdEntered] else []

@[simp] theorem State.written_endHold : (s.written l x ps bodies).endHold l =
    s.written l { x with mode := x.mode.endHold } ps (bodies ++ heldRecords l x.mode) := by
  by_cases h : x.mode = .holdPending
  · simp only [State.endHold, State.written_lane, h, heldRecords, LaneMode.endHold, if_true, State.written_modLane,
      State.written_append]
  · have hmode : x.mode.endHold = x.mode := by cases hm : x.mode <;> simp_all [LaneMode.endHold]
    have hkeep : (s.written l x ps bodies).endHold l = s.written l x ps bodies := by
      cases hm : x.mode <;> simp_all [State.endHold]
    rw [hkeep, hmode, heldRecords, if_neg h, List.append_nil]

theorem State.written_derive :
    (s.written l x ps bodies).derive l = s.written l (x.derive s.pacing.lift) ps bodies := by
  rw [State.derive, State.written_modLane, State.written_pacing]

theorem State.written_rederive_of_none (h : x.grant = none) : (s.written l x ps bodies).rederive l =
    s.written l { x with gate := x.gateAfter (x.mode.heldCommand.getD .closeArm) } ps bodies := by
  rw [State.rederive_of_none (by rw [State.written_lane]; exact h), State.written_derive, Lane.derive_of_none h]

theorem State.written_rederive_of_fault (h : x.grant = none) (hf : x.faults.any = true) :
    (s.written l x ps bodies).rederive l = s.written l x ps bodies := by
  rw [State.written_rederive_of_none h, Lane.gateAfter_of_fault hf]

/-! ## Lane reset -/

/-- The lane after its grant has left and its hold has ended (R96, R102). -/
def Lane.released (x : Lane) : Lane :=
  { x with
    grant := none, mode := x.mode.endHold,
    timer := (if x.grant.isSome = true ∧ x.settings.pace = .free then none else x.timer),
    counts := { x.counts with lapsed := if x.grant.isSome then satInc x.counts.lapsed else x.counts.lapsed } }

/-- The lane, the passes and the records after the grant of a lane reset has left (R96). -/
theorem reset_released (s : State) (l : Lane.Index) :
    State.endHold (match (s.lane l).grant with
      | none => s
      | some g => (s.reportLapsed l g).release l g) l =
    s.written l (s.lane l).released
      (match (s.lane l).grant with
        | none => s.passes
        | some g => s.passes.map (fun r => if r.serial = g.serial then { r with grantLane := none } else r))
      ((match (s.lane l).grant with | none => [] | some g => [.grantLapsed g.serial l]) ++
        heldRecords l (s.lane l).mode) := by
  cases hg : (s.lane l).grant with
  | none =>
    have h := congrArg (fun u => State.endHold u l) (State.written_start s l).symm
    simp only [State.written_endHold] at h
    refine h.trans ?_
    simp [hg, Lane.released]
  | some g =>
    have h := congrArg (fun u => State.endHold ((State.reportLapsed u l g).release l g) l) (State.written_start s l).symm
    simp only [State.reportLapsed, State.written_count, State.written_append, State.written_release,
      State.written_endHold, Lane.vacate_eq] at h
    refine h.trans ?_
    cases hp : (s.lane l).settings.pace <;> simp [hp, hg, changePass, Lane.released]

/-- The lane after its reset (R123), the input obstructed or not. -/
def Lane.afterReset (x : Lane) : Lane :=
  if x.obstruction.raw then
    { x.released.resetGate with
      faults := { obstruction := true, stuck := false }, gate := .released,
      counts := { x.released.counts with faults := satInc x.released.counts.faults } }
  else x.released.resetGate

theorem Lane.resetGate_closed (x : Lane) :
    x.resetGate.gateAfter (x.resetGate.mode.heldCommand.getD .closeArm) = x.resetGate.gate := by
  have hcommand : x.resetGate.mode.heldCommand.getD .closeArm = .closeArm := by
    simp only [Lane.resetGate, Lane.placeBeams]
    cases x.mode <;> rfl
  have hfaults : x.resetGate.faults.any = false := rfl
  rw [hcommand, Lane.gateAfter_of_faultless hfaults]
  simp only [Lane.resetGate, Lane.closingGate]
  cases x.placeBeams.gate <;> cases x.placeBeams.armClosed <;> rfl

theorem State.rederive_raise_of_none (s : State) (f : CauseSet → CauseSet) (h : (s.lane l).grant = none) :
    (s.raise f).rederive l = (s.rederive l).raise f := by
  rw [State.rederive_of_none h, State.rederive_of_none (s := s.raise f) h]
  rfl

/-- The steps of a lane reset after the grant has left (R123). -/
def State.resetRest (s : State) (l : Lane.Index) : State :=
  let s := s.modLane l Lane.resetGate
  let s := if (s.lane l).obstruction.accepted then s.setFault l .obstruction else s
  s.rederive l

theorem State.resetRest_written (h : x.grant = none) : (s.written l x ps bodies).resetRest l =
    let t := s.written l
      (if x.obstruction.raw then
        { x.resetGate with
          faults := { obstruction := true, stuck := false }, gate := .released,
          counts := { x.counts with faults := satInc x.counts.faults } }
      else x.resetGate) ps
      (bodies ++ if x.obstruction.raw then [.laneEvent l (.faultSet .obstruction)] else [])
    if x.obstruction.raw then t.raise (fun k => { k with laneFault := k.laneFault ||| laneBit l }) else t := by
  have hclosed := Lane.resetGate_closed x
  have hnone : x.resetGate.grant = none := h
  have haccepted : x.resetGate.obstruction.accepted = x.obstruction.raw := rfl
  have hhas : x.resetGate.faults.has .obstruction = false := rfl
  simp only [State.resetRest, State.written_modLane, State.written_lane, haccepted]
  cases hraw : x.obstruction.raw with
  | false =>
    simp only [Bool.false_eq_true, if_false, List.append_nil]
    rw [State.written_rederive_of_none hnone, hclosed]
  | true =>
    simp only [if_true, State.setFault, State.written_lane, hhas, State.written_modLane, State.written_count,
      State.written_append, Bool.false_eq_true, if_false]
    have hfaulted := State.written_rederive_of_fault (s := s) (l := l) (ps := ps)
      (bodies := bodies ++ [.laneEvent l (.faultSet .obstruction)])
      (x := { x.resetGate.setFault .obstruction with
        counts := { x.resetGate.counts with faults := satInc x.resetGate.counts.faults } }) hnone rfl
    have hraised (u : State) (f : CauseSet → CauseSet) (hu : u.rederive l = u) (hg : (u.lane l).grant = none) :
        (u.raise f).rederive l = u.raise f := by rw [State.rederive_raise_of_none u f hg, hu]
    have hgrant : x.resetGate.grant = none := h
    have honce := hraised _ (fun k => { k with laneFault := k.laneFault ||| laneBit l }) hfaulted
      (by rw [State.written_lane]; exact hgrant)
    exact (congrArg (fun u => State.rederive u l) honce).trans honce

theorem State.resetLane_eq (s : State) (l : Lane.Index) : s.resetLane l =
    let t := s.written l (s.lane l).afterReset
      (match (s.lane l).grant with
        | none => s.passes
        | some g => s.passes.map (fun r => if r.serial = g.serial then { r with grantLane := none } else r))
      ((match (s.lane l).grant with | none => [] | some g => [.grantLapsed g.serial l]) ++
        heldRecords l (s.lane l).mode ++
        (if (s.lane l).obstruction.raw then [.laneEvent l (.faultSet .obstruction)] else []))
    if (s.lane l).obstruction.raw then t.raise (fun k => { k with laneFault := k.laneFault ||| laneBit l }) else t := by
  exact (congrArg (fun u => State.resetRest u l) (reset_released s l)).trans (State.resetRest_written rfl)

theorem Lane.released_mode (x : Lane) : (x.released.resetGate).mode = match x.mode with
    | .auto => .auto
    | .disabled => .disabled
    | _ => .held .closeArm := by
  simp only [Lane.resetGate, Lane.released, Lane.placeBeams]
  cases x.mode <;> rfl

theorem Lane.released_loiterTimer (x : Lane) : (x.released.resetGate).loiterTimer =
    if Recognizer.placed x.beamA.raw x.beamB.raw = .clear ∨ x.mode = .disabled then none
    else some { elapsed := 0, limit := 1000 * x.settings.loiterTime } := by
  change (if Recognizer.placed x.beamA.raw x.beamB.raw = .clear then none else x.released.startLoiter) = _
  have hstart : x.released.startLoiter =
      if x.mode = .disabled then none else some { elapsed := 0, limit := 1000 * x.settings.loiterTime } := by
    simp only [Lane.startLoiter, Lane.released, Timer.start]
    cases x.mode <;> rfl
  rw [hstart]
  split_ifs <;> simp_all

theorem Lane.released_gate (x : Lane) : (x.released.resetGate).gate = match x.gate with
    | .shut => .shut
    | _ => if x.armClosed then .shut else .closing { elapsed := 0, limit := x.settings.closeLimit } := by
  change (match x.gate with | .shut => GateState.shut | _ => Lane.closingGate _) = _
  cases x.gate <;> rfl

/-- Settles O26: the steps of the reset, one after another, written out. -/
theorem laneResetLeaves : Obligations.LaneResetLeaves := by
  intro s n l hl h x blocked mode placed y records t
  have hmode : x.released.resetGate.mode = mode := Lane.released_mode x
  have hlane : (s.lane l).afterReset = y := by
    have hloiter := Lane.released_loiterTimer x
    have hgate := Lane.released_gate x
    have hobstruction : x.released.resetGate.obstruction = { raw := blocked, accepted := blocked, running := none } :=
      rfl
    have hreleased : x.released.resetGate = { x.released.resetGate with
        mode := x.released.resetGate.mode, loiterTimer := x.released.resetGate.loiterTimer,
        gate := x.released.resetGate.gate, obstruction := x.released.resetGate.obstruction } := rfl
    rw [hmode, hloiter, hgate, hobstruction] at hreleased
    change x.afterReset = y
    rw [Lane.afterReset, hreleased]
    change (if blocked = true then _ else _) = _
    by_cases hraw : blocked = true
    · simp only [y, hraw, if_true]
      rfl
    · simp only [y, hraw]
      rfl
  have hstate : s.resetLane l =
      if blocked then t.raise (fun k => { k with laneFault := k.laneFault ||| laneBit l }) else t := by
    have hreset := State.resetLane_eq s l
    rw [hlane] at hreset
    exact hreset
  have hleft : (s.resetLane l).lane l = y := by
    have ht : t.lane l = y := State.written_lane
    rw [hstate]
    split <;> exact ht
  have hresults : (s.resetLane l).modeItem l ++ item 1 ((s.resetLane l).lane l).gate.code =
      fields [(1, modeCode mode),
        (1, match y.gate with | .shut => 0 | .opened => 1 | .closing _ => 2 | .released => 3)] := by
    have hgate : y.gate.code = match y.gate with | .shut => 0 | .opened => 1 | .closing _ => 2 | .released => 3 := by
      cases y.gate <;> rfl
    rw [State.modeItem, hleft, LaneMode.code_eq, hgate, fields_cons, fields_cons, fields_nil, List.append_nil]
  exact answers_of_serveLane rfl h hl (congrArg₂ (fun u results => Served.answered u .ok results) hstate hresults)

end Sys2Proof.Machine

/-! LANE_CONFIG (R120): the request decoded, and each named setting's effects on a lane without a grant. -/

namespace Sys2Proof.Machine

open Sys2Proof.Safety

variable {s t : State} {l : Lane.Index} {x y : Lane} {ps : List PassRecord} {bodies : List RecordBody}

/-! ## The lane's settings in a response -/

theorem LaneMode.enabled_iff (m : LaneMode) : m.enabled = true ↔ m ≠ .disabled := by
  cases m <;> simp [LaneMode.enabled]

theorem settingsItem_eq (x : Lane) : x.settingsItem = fields (settingRows x) := by
  have henabled : flag x.mode.enabled = item 1 (if x.mode = .disabled then 0 else 1) := by
    cases x.mode <;> simp [LaneMode.enabled, flag, item_one]
  have hpace : x.settings.pace.code = match x.settings.pace with | .free => 0 | .paced => 1 := by
    cases x.settings.pace <;> rfl
  have hfault : x.settings.fault.code = match x.settings.fault with | .latched => 0 | .autoClear => 1 := by
    cases x.settings.fault <;> rfl
  simp only [Lane.settingsItem, settingRows, fields_cons, fields_nil, henabled, hpace, hfault, List.append_assoc,
    List.append_nil]
    <;> rfl

/-! ## The request decoded -/

/-- Whether a setting is given (R120, R187). -/
def presenceBit (m1 m0 : Byte) (i : Nat) : Bool := (256 * m1.toNat + m0.toNat).testBit i

/-- The number sent for a setting (R120, R187). -/
def sentNumber (numbers : List Byte) (i : Nat) : Nat := ofBe ((numbers.drop (2 * (i - 3))).take 2)

theorem namedSetting_some {α : Type} {given : Bool} {decoded : Option α} {v : α}
    (h : given = true → decoded = some v) : namedSetting given decoded = some (if given then some v else none) := by
  cases given with
  | false => rfl
  | true => rw [h rfl]; rfl

theorem namedSetting_none {α : Type} : namedSetting true (none : Option α) = none := rfl

/-- The named settings of a request, by whether each is given. -/
def namedGiven (given : Nat → Bool) (e : Bool) (p : PaceMode) (f : FaultMode) : NamedSettings :=
  { enable := if given 0 then some e else none, pace := if given 1 then some p else none,
    fault := if given 2 then some f else none }

theorem serveLaneConfig_eq {n m1 m0 enable pace fault : Byte} {numbers : List Byte} (hlength : numbers.length = 12) :
    serveLaneConfig (n :: m1 :: m0 :: enable :: pace :: fault :: numbers) s =
      match laneOf n.toNat, namedSetting (presenceBit m1 m0 0) (enableOf enable),
        namedSetting (presenceBit m1 m0 1) (PaceMode.ofCode pace),
        namedSetting (presenceBit m1 m0 2) (FaultMode.ofCode fault) with
      | some l, some e, some p, some f =>
        s.configureLane l { enable := e, pace := p, fault := f } (presenceBit m1 m0) (sentNumber numbers)
      | _, _, _, _ => .refuse s .badValue := by
  have hgiven : (fun i => bitOf (ofBe [m1, m0]) i) = presenceBit m1 m0 := by
    funext i
    rw [bitOf, ofBe_two, presenceBit]
  have hvalue : (fun i => numberAt numbers (2 * (i - 3)) 2) = sentNumber numbers := rfl
  rw [← hgiven, ← hvalue]
  exact if_neg (by simpa using hlength)

theorem serveLaneConfig_taken {n m1 m0 enable pace fault : Byte} {numbers : List Byte} {e : Bool} {p : PaceMode}
    {f : FaultMode} (hlength : numbers.length = 12) (hl : laneOf n.toNat = some l)
    (he : presenceBit m1 m0 0 = true → enableOf enable = some e)
    (hp : presenceBit m1 m0 1 = true → PaceMode.ofCode pace = some p)
    (hf : presenceBit m1 m0 2 = true → FaultMode.ofCode fault = some f) :
    serveLaneConfig (n :: m1 :: m0 :: enable :: pace :: fault :: numbers) s =
      s.configureLane l (namedGiven (presenceBit m1 m0) e p f) (presenceBit m1 m0) (sentNumber numbers) := by
  rw [serveLaneConfig_eq hlength, hl, namedSetting_some he, namedSetting_some hp, namedSetting_some hf]
  rfl

theorem serveLaneConfig_badValue {n m1 m0 enable pace fault : Byte} {numbers : List Byte}
    (hlength : numbers.length = 12)
    (hbad : laneOf n.toNat = none ∨ presenceBit m1 m0 0 = true ∧ enableOf enable = none ∨
      presenceBit m1 m0 1 = true ∧ PaceMode.ofCode pace = none ∨
      presenceBit m1 m0 2 = true ∧ FaultMode.ofCode fault = none) :
    serveLaneConfig (n :: m1 :: m0 :: enable :: pace :: fault :: numbers) s = .answered s .badValue [] := by
  rw [serveLaneConfig_eq hlength]
  rcases hbad with h | ⟨h, hnone⟩ | ⟨h, hnone⟩ | ⟨h, hnone⟩
  · rw [h]
    rfl
  · rw [h, hnone, namedSetting_none]
    cases laneOf n.toNat <;> rfl
  · rw [h, hnone, namedSetting_none]
    cases laneOf n.toNat <;> cases namedSetting (presenceBit m1 m0 0) (enableOf enable) <;> rfl
  · rw [h, hnone, namedSetting_none]
    cases laneOf n.toNat <;> cases namedSetting (presenceBit m1 m0 0) (enableOf enable) <;>
      cases namedSetting (presenceBit m1 m0 1) (PaceMode.ofCode pace) <;> rfl

/-- The lane with the numbers of a request taken. -/
def Lane.numbered (x : Lane) (given : Nat → Bool) (value : Nat → Nat) : Lane :=
  { x with settings := x.settings.configured given value }

theorem ite_getD {α : Type} {c : Bool} {v w : α} (h : c = false → v = w) : (if c then some v else none).getD w = v := by
  cases c with
  | true => rfl
  | false => exact (h rfl).symm

section named

variable {given : Nat → Bool} {e : Bool} {p : PaceMode} {f : FaultMode}

theorem wouldChange_eq (he : given 0 = false → e = x.mode.enabled) (hp : given 1 = false → p = x.settings.pace)
    (hf : given 2 = false → f = x.settings.fault) : x.wouldChange (namedGiven given e p f) = true ↔
      ¬(e = x.mode.enabled ∧ p = x.settings.pace ∧ f = x.settings.fault) := by
  simp only [Lane.wouldChange, namedGiven, ite_getD he, ite_getD hp, ite_getD hf, Bool.or_eq_true, bne_iff_ne]
  tauto

/-! ## Each named setting on a lane without a grant -/

/-- The gate follows the mode's command (R107). -/
def Lane.governed (y : Lane) : Lane := { y with gate := y.gateAfter (y.mode.heldCommand.getD .closeArm) }

theorem Lane.governed_governed (y : Lane) : y.governed.governed = y.governed :=
  congrArg (fun g => { y with gate := g }) (Lane.gateAfter_issue y (y.mode.heldCommand.getD .closeArm))

theorem State.written_governed (h : x.grant = none) :
    (s.written l x ps bodies).rederive l = s.written l x.governed ps bodies := State.written_rederive_of_none h

/-- The enable setting taken (R49, R81, R120). -/
def Lane.enabledAs (x : Lane) (e : Bool) : Lane :=
  if e = x.mode.enabled then x
  else if e then Lane.governed { x with
    mode := .auto, carry := false,
    timer := (match x.settings.pace with | .paced => none | .free => x.timer),
    loiterTimer := if x.recognizer = .clear then x.loiterTimer
      else some { elapsed := 0, limit := 1000 * x.settings.loiterTime } }
  else Lane.governed { x with
    mode := .disabled, reader := x.reader.disable, loiterTimer := none, loiterMark := false, timer := none,
    carry := false }

/-- The pace mode taken over the mode `old` (R119, R120). -/
def Lane.pacedAs (old : PaceMode) (x : Lane) (p : PaceMode) : Lane :=
  if p = old then x
  else if p = .free ∧ x.rearm = .rearmed then ((x.repace p).cleared .obstructionOnly).governed
  else (x.repace p).governed

/-- The fault mode taken over the mode `old` (R118, R120). -/
def Lane.faultedAs (old : FaultMode) (x : Lane) (f : FaultMode) : Lane := if f = old then x else x.refault f

/-- The records of the enable setting. -/
def enableRecords (l : Lane.Index) (x : Lane) (e : Bool) : List RecordBody :=
  if x.mode ≠ .disabled ∧ e = false ∧ x.mode.heldCommand.isSome = true then [.laneEvent l .holdLeft] else []

theorem State.foldl_append_setBus (bodies : List RecordBody) (s : State) (b : Bus) :
    { (bodies.foldl State.append s) with bus := b } = bodies.foldl State.append { s with bus := b } := by
  have hone (s : State) (r : RecordBody) : { (s.append r) with bus := b } = State.append { s with bus := b } r := by
    by_cases hroom : s.reports.records.length < Config.reportCapacity
    · by_cases hmark : s.reports.records.length + 1 = Config.backlogMark <;>
        simp only [State.append, State.raise, hroom, hmark, if_true, if_false]
    · simp only [State.append, State.raise, hroom, if_false]
  induction bodies generalizing s with
  | nil => rfl
  | cons r bs ih => exact (ih (s.append r)).trans (congrArg (fun u => bs.foldl State.append u) (hone s r))

theorem State.written_setBus (b : Bus) :
    { s.written l x ps bodies with bus := b } = ({ s with bus := b } : State).written l x ps bodies :=
  State.foldl_append_setBus bodies _ b

@[simp] theorem State.written_bus : (s.written l x ps bodies).bus = s.bus :=
  List.foldlRecOn (motive := fun u : State => u.bus = s.bus) bodies _ rfl fun u hu b _ => by rw [State.append_bus, hu]

theorem State.disableLane_written (h : x.grant = none) : (s.written l x ps bodies).disableLane l =
    ({ s with bus := s.bus.voidPoll l } : State).written l
      (Lane.governed { x with
        mode := .disabled, reader := x.reader.disable, loiterTimer := none, loiterMark := false, timer := none,
        carry := false }) ps
      (bodies ++ if x.mode.heldCommand.isSome = true then [.laneEvent l .holdLeft] else []) := by
  simp only [State.disableLane, State.written_lane, State.written_modLane, State.written_bus, State.written_setBus]
  split
  · rw [State.written_append]
    exact State.written_governed h
  · rw [List.append_nil]
    exact State.written_governed h

theorem State.setEnable_written (h : x.grant = none) (e : Bool) : (s.written l x ps bodies).setEnable l e =
    ({ s with bus := if x.mode ≠ .disabled ∧ e = false then s.bus.voidPoll l else s.bus } : State).written l
      (x.enabledAs e) ps (bodies ++ enableRecords l x e) := by
  have hbus : { s with bus := s.bus } = s := rfl
  by_cases hsame : e = x.mode.enabled
  · have hkeep : ¬(x.mode ≠ .disabled ∧ e = false) := by
      rw [← LaneMode.enabled_iff, ← hsame]
      simp
    have hrecords : enableRecords l x e = [] := if_neg fun hd => hkeep ⟨hd.1, hd.2.1⟩
    rw [State.setEnable, State.written_lane, if_pos hsame, Lane.enabledAs, if_pos hsame, if_neg hkeep, hrecords,
      List.append_nil]
  · rw [State.setEnable, State.written_lane, if_neg hsame, Lane.enabledAs, if_neg hsame]
    cases e with
    | true =>
      have hrecords : enableRecords l x true = [] := if_neg fun hd => by simp at hd
      rw [if_pos rfl, if_pos rfl, if_neg (by simp), hrecords, List.append_nil, State.enableLane, State.written_modLane]
      exact State.written_governed h
    | false =>
      have henabled : x.mode ≠ .disabled := (LaneMode.enabled_iff _).1 (by simpa using Ne.symm hsame)
      rw [if_neg (by simp), if_pos ⟨henabled, rfl⟩, State.disableLane_written h]
      simp [enableRecords, henabled]

theorem State.clearFaults_written (h : x.grant = none) (k : FaultSet) : (s.written l x ps bodies).clearFaults l k =
    s.written l (x.cleared k).governed ps (bodies ++ clearedRecords l x.faults k) := by
  have hnone : (x.cleared k).grant = none := by rw [Lane.cleared_eq]; exact h
  have hnoted : (clearedRecords l x.faults k).foldl State.append ((s.written l x ps bodies).setLane l (x.cleared k)) =
      s.written l (x.cleared k) ps (bodies ++ clearedRecords l x.faults k) := by
    rw [State.written_setLane, State.written, State.written, List.foldl_append]
  rw [State.clearFaults_eq, State.written_lane, hnoted]
  simp only []
  rw [State.settle_of_none (by rw [State.written_lane]; exact hnone), ite_self, State.written_governed hnone]

theorem State.setPace_written (h : x.grant = none) (p : PaceMode) : (s.written l x ps bodies).setPace l p =
    s.written l (x.pacedAs x.settings.pace p) ps (bodies ++
      if p ≠ x.settings.pace ∧ p = .free ∧ x.rearm = .rearmed then clearedRecords l x.faults .obstructionOnly
      else []) := by
  have hnone : (x.repace p).grant = none := h
  by_cases hsame : p = x.settings.pace
  · rw [State.setPace, State.written_lane, if_pos hsame, Lane.pacedAs, if_pos hsame, if_neg fun hd => hd.1 hsame,
      List.append_nil]
  · rw [State.setPace, State.written_lane, if_neg hsame, Lane.pacedAs, if_neg hsame, State.written_modLane]
    simp only [State.written_lane]
    by_cases hclear : p = .free ∧ x.rearm = .rearmed
    · rw [if_pos (show p = .free ∧ (x.repace p).rearm = .rearmed from hclear), if_pos hclear, if_pos ⟨hsame, hclear⟩,
        State.clearFaults_written hnone, State.written_governed (by rw [Lane.governed, Lane.cleared_eq]; exact h),
        Lane.governed_governed]
      rfl
    · rw [if_neg (show ¬(p = .free ∧ (x.repace p).rearm = .rearmed) from hclear), if_neg hclear,
        if_neg fun hd => hclear hd.2, State.written_governed hnone,
        List.append_nil]

theorem State.setFaultMode_written (f : FaultMode) : (s.written l x ps bodies).setFaultMode l f =
    s.written l (x.faultedAs x.settings.fault f) ps bodies := by
  rw [State.setFaultMode, State.written_lane, Lane.faultedAs]
  split
  · rfl
  · rw [State.written_modLane]

theorem Lane.enabledAs_settings (x : Lane) (e : Bool) : (x.enabledAs e).settings = x.settings ∧
    (x.enabledAs e).rearm = x.rearm ∧ (x.enabledAs e).faults = x.faults ∧ (x.enabledAs e).grant = x.grant := by
  unfold Lane.enabledAs
  split_ifs <;> exact ⟨rfl, rfl, rfl, rfl⟩

theorem Lane.pacedAs_settings (x : Lane) (old p : PaceMode) : (x.pacedAs old p).settings.fault = x.settings.fault ∧
    (x.pacedAs old p).grant = x.grant := by
  unfold Lane.pacedAs
  split_ifs
  · exact ⟨rfl, rfl⟩
  · rw [Lane.governed, Lane.cleared_eq]
    exact ⟨rfl, rfl⟩
  · exact ⟨rfl, rfl⟩

theorem Lane.faultedAs_settings (x : Lane) (old f : FaultMode) : (x.faultedAs old f).settings.pace = x.settings.pace ∧
    (x.faultedAs old f).grant = x.grant ∧ (x.faultedAs old f).faults = x.faults := by
  unfold Lane.faultedAs
  split
  · exact ⟨rfl, rfl, rfl⟩
  · obtain ⟨rearm, hx⟩ := Lane.refault_eq x f
    rw [hx]
    exact ⟨rfl, rfl, rfl⟩

/-- Whether the change to LATCHED comes before the change to FREE (log entry 13). -/
abbrev Lane.FaultFirst (x : Lane) (p : PaceMode) (f : FaultMode) : Prop :=
  Config.rearmedClearsFirst = false ∧ x.rearm = .rearmed ∧ x.settings.pace = .paced ∧ p = .free ∧
    x.settings.fault = .autoClear ∧ f = .latched

/-- The lane after its named settings have been taken. -/
def Lane.named (x : Lane) (e : Bool) (p : PaceMode) (f : FaultMode) : Lane :=
  if x.FaultFirst p f then ((x.enabledAs e).faultedAs x.settings.fault f).pacedAs x.settings.pace p
  else ((x.enabledAs e).pacedAs x.settings.pace p).faultedAs x.settings.fault f

/-- The records of a change to FREE (R119, R120). -/
def paceRecords (l : Lane.Index) (x : Lane) (p : PaceMode) (f : FaultMode) : List RecordBody :=
  if ¬x.FaultFirst p f ∧ x.settings.pace = .paced ∧ p = .free ∧ x.rearm = .rearmed ∧ x.faults.obstruction = true then
    [.laneEvent l (.faultCleared .obstruction)]
  else []

theorem State.setNamed_elim (s : State) (l : Lane.Index) (n : NamedSettings) : s.setNamed l n =
    let enable (s : State) : State := n.enable.elim s (s.setEnable l)
    let pace (s : State) : State := n.pace.elim s (s.setPace l)
    let fault (s : State) : State := n.fault.elim s (s.setFaultMode l)
    let x := s.lane l
    if x.rearm = .rearmed ∧ x.settings.pace = .paced ∧ n.pace = some .free ∧ x.settings.fault = .autoClear ∧
        n.fault = some .latched then
      (if Config.rearmedClearsFirst then fault (pace (enable s)) else pace (fault (enable s)))
    else fault (pace (enable s)) := by
  unfold State.setNamed
  cases n.enable <;> cases n.pace <;> cases n.fault <;> rfl

theorem elim_taken {α : Type} {c : Bool} {v : α} {F : α → State} (h : c = false → F v = s) :
    (if c then some v else none).elim s F = F v := by
  cases c with
  | true => rfl
  | false => exact (h rfl).symm

theorem Lane.faultedAs_latched {x : Lane} {old : FaultMode} (h : old = .autoClear) :
    (x.faultedAs old .latched).rearm = .idle := by
  rw [Lane.faultedAs, if_neg (by simp [h])]
  rfl

/-- The records of a change of pace mode, where no change of fault mode comes before it. -/
theorem paceRecords_of_not {x : Lane} (h : ¬x.FaultFirst p f) : paceRecords l x p f =
    if p ≠ x.settings.pace ∧ p = .free ∧ x.rearm = .rearmed then clearedRecords l x.faults .obstructionOnly else [] := by
  have hone : clearedRecords l x.faults .obstructionOnly =
      if x.faults.obstruction = true then [.laneEvent l (.faultCleared .obstruction)] else [] := by
    simp [clearedRecords, FaultSet.obstructionOnly]
  have hpace : p ≠ x.settings.pace ∧ p = .free ↔ x.settings.pace = .paced ∧ p = .free := by
    cases p <;> cases x.settings.pace <;> simp
  have hcase : p ≠ x.settings.pace ∧ p = .free ∧ x.rearm = .rearmed ↔
      x.settings.pace = .paced ∧ p = .free ∧ x.rearm = .rearmed := by rw [← and_assoc, hpace, and_assoc]
  simp only [hone, paceRecords, hcase, h, not_false_eq_true, true_and]
  by_cases ho : x.faults.obstruction = true <;> simp [ho]

theorem taken_some_iff {α : Type} {c : Bool} {v w old other : α} (h : c = false → v = old) (hw : w ≠ other) :
    old = other ∧ (if c then some v else none) = some w ↔ old = other ∧ v = w := by
  cases c with
  | true => simp
  | false =>
    have hno (hold : old = other) : ¬v = w := fun hv => hw (hv ▸ (h rfl).trans hold)
    simp only [Bool.false_eq_true, if_false, reduceCtorEq, and_false, false_iff, not_and]
    exact hno

theorem faultFirst_given (hp : given 1 = false → p = x.settings.pace) (hf : given 2 = false → f = x.settings.fault) :
    (x.rearm = .rearmed ∧ x.settings.pace = .paced ∧ (if given 1 then some p else none) = some .free ∧
      x.settings.fault = .autoClear ∧ (if given 2 then some f else none) = some .latched) ↔
    (x.rearm = .rearmed ∧ x.settings.pace = .paced ∧ p = .free ∧ x.settings.fault = .autoClear ∧ f = .latched) := by
  rw [taken_some_iff hf (by decide), ← and_assoc (a := x.settings.pace = .paced), taken_some_iff hp (by decide),
    and_assoc]

theorem State.setNamed_written (h : x.grant = none) (he : given 0 = false → e = x.mode.enabled)
    (hp : given 1 = false → p = x.settings.pace) (hf : given 2 = false → f = x.settings.fault) :
    (s.written l x ps bodies).setNamed l (namedGiven given e p f) =
      ({ s with bus := if x.mode ≠ .disabled ∧ e = false then s.bus.voidPoll l else s.bus } : State).written l
        (x.named e p f) ps (bodies ++ enableRecords l x e ++ paceRecords l x p f) := by
  obtain ⟨hsettings, hrearm, hfaults, hgrant⟩ := Lane.enabledAs_settings x e
  rw [h] at hgrant
  have henable : (s.written l x ps bodies).setEnable l e = _ := State.setEnable_written h e
  have hpace (u : State) {y : Lane} {bs : List RecordBody} (hy : y.settings.pace = x.settings.pace) :
      given 1 = false → (u.written l y ps bs).setPace l p = u.written l y ps bs := fun hgiven => by
    rw [State.setPace, State.written_lane, if_pos ((hp hgiven).trans hy.symm)]
  have hfault (u : State) {y : Lane} {bs : List RecordBody} (hy : y.settings.fault = x.settings.fault) :
      given 2 = false → (u.written l y ps bs).setFaultMode l f = u.written l y ps bs := fun hgiven => by
    rw [State.setFaultMode, State.written_lane, if_pos ((hf hgiven).trans hy.symm)]
  rw [State.setNamed_elim]
  simp only [namedGiven]
  rw [elim_taken (F := (s.written l x ps bodies).setEnable l) fun hgiven => by
    rw [State.setEnable, State.written_lane, if_pos (he hgiven)]]
  rw [henable]
  generalize hu : ({ s with bus := if x.mode ≠ .disabled ∧ e = false then s.bus.voidPoll l else s.bus } : State) = u
  have hpaceTaken {y : Lane} (bs : List RecordBody) (hy : y.settings.pace = x.settings.pace) :
      (if given 1 then some p else none).elim (u.written l y ps bs) ((u.written l y ps bs).setPace l) =
        (u.written l y ps bs).setPace l p := elim_taken (hpace u hy)
  have hfaultTaken {y : Lane} (bs : List RecordBody) (hy : y.settings.fault = x.settings.fault) :
      (if given 2 then some f else none).elim (u.written l y ps bs) ((u.written l y ps bs).setFaultMode l) =
        (u.written l y ps bs).setFaultMode l f := elim_taken (hfault u hy)
  have hpaceFirst : ¬x.FaultFirst p f →
      State.setFaultMode ((u.written l (x.enabledAs e) ps (bodies ++ enableRecords l x e)).setPace l p) l f =
        u.written l (x.named e p f) ps (bodies ++ enableRecords l x e ++ paceRecords l x p f) := fun hnot => by
    rw [State.setPace_written hgrant, State.setFaultMode_written, (Lane.pacedAs_settings _ _ _).1, hsettings, hrearm,
      hfaults, paceRecords_of_not hnot, Lane.named, if_neg hnot]
  have hfaultFirst : x.FaultFirst p f →
      State.setPace ((u.written l (x.enabledAs e) ps (bodies ++ enableRecords l x e)).setFaultMode l f) l p =
        u.written l (x.named e p f) ps (bodies ++ enableRecords l x e ++ paceRecords l x p f) := fun hfirst => by
    obtain ⟨-, -, -, -, hauto, hlatched⟩ := id hfirst
    obtain ⟨hfp, hfg, hff⟩ := Lane.faultedAs_settings (x.enabledAs e) x.settings.fault f
    have hidle : ((x.enabledAs e).faultedAs x.settings.fault f).rearm = .idle := by
      rw [hlatched, Lane.faultedAs_latched hauto]
    rw [State.setFaultMode_written, hsettings, State.setPace_written (hfg.trans hgrant), hfp, hsettings, hidle, paceRecords,
      Lane.named, if_pos hfirst, if_neg fun hd => by simp at hd, if_neg fun hd => hd.1 hfirst]
  have hcond := faultFirst_given hp hf
  have hfaultKept (hgiven : given 2 = false) :
      State.setFaultMode ((u.written l (x.enabledAs e) ps (bodies ++ enableRecords l x e)).setPace l p) l f =
        (u.written l (x.enabledAs e) ps (bodies ++ enableRecords l x e)).setPace l p := by
    rw [State.setPace_written hgrant, hsettings]
    exact hfault u ((Lane.pacedAs_settings _ _ _).1.trans (by rw [hsettings])) hgiven
  have hpaceKept (hgiven : given 1 = false) :
      State.setPace ((u.written l (x.enabledAs e) ps (bodies ++ enableRecords l x e)).setFaultMode l f) l p =
        (u.written l (x.enabledAs e) ps (bodies ++ enableRecords l x e)).setFaultMode l f := by
    rw [State.setFaultMode_written, hsettings]
    exact hpace u ((Lane.faultedAs_settings _ _ _).1.trans (by rw [hsettings])) hgiven
  simp only [State.written_lane, hcond]
  rw [hpaceTaken _ (by rw [hsettings]), hfaultTaken _ (by rw [hsettings])]
  split
  · rename_i hc
    split
    · rename_i hclears
      exact (elim_taken hfaultKept).trans (hpaceFirst fun hfirst => by rw [hfirst.1] at hclears; simp at hclears)
    · rename_i hclears
      exact (elim_taken hpaceKept).trans (hfaultFirst ⟨by simpa using hclears, hc⟩)
  · rename_i hc
    exact (elim_taken hfaultKept).trans (hpaceFirst fun hfirst => hc hfirst.2)

end named

end Sys2Proof.Machine

/-! LANE_CONFIG's answers (R49, R81, R118 to R120). -/

namespace Sys2Proof.Machine

open Sys2Proof.Safety

variable {s t : State} {l : Lane.Index} {x y : Lane}

section named

variable {given : Nat → Bool} {value : Nat → Nat} {e : Bool} {p : PaceMode} {f : FaultMode}

theorem State.setNamed_same (he : e = (s.lane l).mode.enabled) (hp : p = (s.lane l).settings.pace)
    (hf : f = (s.lane l).settings.fault) : s.setNamed l (namedGiven given e p f) = s := by
  have henable : (if given 0 then some e else none).elim s (s.setEnable l) = s :=
    have hkeep : s.setEnable l e = s := if_pos he
    (elim_taken fun _ => hkeep).trans hkeep
  have hpace : (if given 1 then some p else none).elim s (s.setPace l) = s :=
    have hkeep : s.setPace l p = s := if_pos hp
    (elim_taken fun _ => hkeep).trans hkeep
  have hfault : (if given 2 then some f else none).elim s (s.setFaultMode l) = s :=
    have hkeep : s.setFaultMode l f = s := if_pos hf
    (elim_taken fun _ => hkeep).trans hkeep
  rw [State.setNamed_elim]
  simp only [namedGiven, henable, hpace, hfault, ite_self]

theorem configureLane_refused (he : given 0 = false → e = (s.lane l).mode.enabled)
    (hp : given 1 = false → p = (s.lane l).settings.pace) (hf : given 2 = false → f = (s.lane l).settings.fault)
    (hchange : ¬(e = (s.lane l).mode.enabled ∧ p = (s.lane l).settings.pace ∧ f = (s.lane l).settings.fault))
    (hg : (s.lane l).grant.isSome = true) :
    s.configureLane l (namedGiven given e p f) given value = .answered s .laneState [] := by
  rw [State.configureLane, if_pos (by simp [(wouldChange_eq he hp hf).2 hchange, hg]), Served.refuse]

theorem configureLane_same (he : e = (s.lane l).mode.enabled) (hp : p = (s.lane l).settings.pace)
    (hf : f = (s.lane l).settings.fault) : s.configureLane l (namedGiven given e p f) given value =
      .answered (s.setLane l ((s.lane l).numbered given value)) .ok
        (fields (settingRows ((s.lane l).numbered given value))) := by
  have hkeep : ¬((s.lane l).wouldChange (namedGiven given e p f) && (s.lane l).grant.isSome) = true := fun h => by
    rw [Bool.and_eq_true, wouldChange_eq (fun _ => he) (fun _ => hp) (fun _ => hf)] at h
    exact h.1 ⟨he, hp, hf⟩
  have hnamed : State.setNamed (s.setLane l ((s.lane l).numbered given value)) l (namedGiven given e p f) =
      s.setLane l ((s.lane l).numbered given value) :=
    State.setNamed_same (by rw [State.lane_setLane_same]; exact he) (by rw [State.lane_setLane_same]; exact hp)
      (by rw [State.lane_setLane_same]; exact hf)
  rw [State.configureLane, if_neg hkeep]
  have hstart : s.modLane l (fun x => { x with settings := x.settings.configured given value }) =
      s.setLane l ((s.lane l).numbered given value) := rfl
  simp only [hstart, hnamed, State.lane_setLane_same, settingsItem_eq]

theorem configureLane_none (he : given 0 = false → e = (s.lane l).mode.enabled)
    (hp : given 1 = false → p = (s.lane l).settings.pace) (hf : given 2 = false → f = (s.lane l).settings.fault)
    (hg : (s.lane l).grant = none) : s.configureLane l (namedGiven given e p f) given value =
      let x := (s.lane l).numbered given value
      .answered (({ s with bus := if x.mode ≠ .disabled ∧ e = false then s.bus.voidPoll l else s.bus } : State).written l
          (x.named e p f) s.passes (enableRecords l x e ++ paceRecords l x p f)) .ok
        (fields (settingRows (x.named e p f))) := by
  have hkeep : ¬((s.lane l).wouldChange (namedGiven given e p f) && (s.lane l).grant.isSome) = true := by simp [hg]
  have hstart : s.modLane l (fun x => { x with settings := x.settings.configured given value }) =
      s.written l ((s.lane l).numbered given value) s.passes [] := rfl
  have hnamed := State.setNamed_written (s := s) (l := l) (x := (s.lane l).numbered given value) (ps := s.passes)
    (bodies := []) hg he hp hf
  rw [State.configureLane, if_neg hkeep]
  simp only [hstart, hnamed, State.written_lane, settingsItem_eq, List.nil_append]

end named

/-! ## The named settings as bytes -/

theorem Byte.zero_or_one {b : Byte} (h : b.toNat ≤ 1) : b = 0#8 ∨ b = 1#8 := by
  rcases Nat.le_one_iff_eq_zero_or_eq_one.1 h with h | h
  · exact .inl (BitVec.eq_of_toNat_eq h)
  · exact .inr (BitVec.eq_of_toNat_eq h)

theorem Byte.ne_of_one_lt {b : Byte} (h : 1 < b.toNat) : b ≠ 0#8 ∧ b ≠ 1#8 :=
  ⟨by rintro rfl; simp at h, by rintro rfl; simp at h⟩

/-- The pace mode of a code that is one. -/
def paceOf (b : Byte) : PaceMode := if b = 0#8 then .free else .paced

/-- The fault mode of a code that is one. -/
def faultOf (b : Byte) : FaultMode := if b = 0#8 then .latched else .autoClear

theorem enableOf_eq {b : Byte} (h : b.toNat ≤ 1) : enableOf b = some (decide (b = 1#8)) := by
  rcases Byte.zero_or_one h with rfl | rfl <;> rfl

theorem paceOfCode_eq {b : Byte} (h : b.toNat ≤ 1) : PaceMode.ofCode b = some (paceOf b) := by
  rcases Byte.zero_or_one h with rfl | rfl <;> rfl

theorem faultOfCode_eq {b : Byte} (h : b.toNat ≤ 1) : FaultMode.ofCode b = some (faultOf b) := by
  rcases Byte.zero_or_one h with rfl | rfl <;> rfl

theorem decoded_none {b : Byte} (h : 1 < b.toNat) :
    enableOf b = none ∧ PaceMode.ofCode b = none ∧ FaultMode.ofCode b = none := by
  obtain ⟨h0, h1⟩ := Byte.ne_of_one_lt h
  simp [enableOf, PaceMode.ofCode, FaultMode.ofCode, h0, h1]

theorem decide_one_iff {b : Byte} (h : b.toNat ≤ 1) (m : LaneMode) :
    decide (b = 1#8) = m.enabled ↔ b = if m = .disabled then 0#8 else 1#8 := by
  rcases Byte.zero_or_one h with rfl | rfl <;> cases m <;> simp [LaneMode.enabled]

theorem paceOf_iff {b : Byte} (h : b.toNat ≤ 1) (p : PaceMode) : paceOf b = p ↔ b = BitVec.ofNat 8 p.code := by
  rcases Byte.zero_or_one h with rfl | rfl <;> cases p <;> simp [paceOf, PaceMode.code]

theorem faultOf_iff {b : Byte} (h : b.toNat ≤ 1) (f : FaultMode) : faultOf b = f ↔ b = BitVec.ofNat 8 f.code := by
  rcases Byte.zero_or_one h with rfl | rfl <;> cases f <;> simp [faultOf, FaultMode.code]

/-- Settles O28: the refusals, and the numbers of a request that names no change. -/
theorem laneConfigTakesSettings : Obligations.LaneConfigTakesSettings := by
  intro s n m1 m0 enable pace fault numbers hlength h given
  refine ⟨fun hbad => answers_of_serve rfl h (serveLaneConfig_badValue hlength ?_), ?_⟩
  · rcases hbad with hn | ⟨hgiven, hb⟩ | ⟨hgiven, hb⟩ | ⟨hgiven, hb⟩
    · exact .inl (laneOf_none hn)
    · exact .inr (.inl ⟨hgiven, (decoded_none hb).1⟩)
    · exact .inr (.inr (.inl ⟨hgiven, (decoded_none hb).2.1⟩))
    · exact .inr (.inr (.inr ⟨hgiven, (decoded_none hb).2.2⟩))
  intro l e p f hl x value taken he hp hf he1 hp1 hf1 same
  have htaken : serveLaneConfig (n :: m1 :: m0 :: enable :: pace :: fault :: numbers) s = s.configureLane l
      (namedGiven given (decide (e = 1#8)) (paceOf p) (faultOf f)) given (sentNumber numbers) :=
    serveLaneConfig_taken hlength hl
      (fun (hgiven : given 0 = true) => by rw [if_pos hgiven] at he; rw [← he, enableOf_eq he1])
      (fun (hgiven : given 1 = true) => by rw [if_pos hgiven] at hp; rw [← hp, paceOfCode_eq hp1])
      (fun (hgiven : given 2 = true) => by rw [if_pos hgiven] at hf; rw [← hf, faultOfCode_eq hf1])
  have hsame : same ↔ decide (e = 1#8) = x.mode.enabled ∧ paceOf p = x.settings.pace ∧ faultOf f = x.settings.fault := by
    rw [decide_one_iff he1, paceOf_iff hp1, faultOf_iff hf1]
  refine ⟨fun hnot hg => answers_of_serve rfl h ?_, fun hs => ⟨_, rfl, answers_of_serve rfl h ?_⟩⟩
  · rw [htaken]
    refine configureLane_refused (fun hgiven => ?_) (fun hgiven => ?_) (fun hgiven => ?_) (fun hd => hnot (hsame.2 hd)) hg
    · rw [hgiven] at he
      exact (decide_one_iff he1 _).2 he
    · rw [hgiven] at hp
      exact (paceOf_iff hp1 _).2 hp
    · rw [hgiven] at hf
      exact (faultOf_iff hf1 _).2 hf
  · obtain ⟨hse, hsp, hsf⟩ := hsame.1 hs
    rw [htaken, configureLane_same hse hsp hsf, State.lane_setLane_same]
    rfl

/-! ## The three changes written out -/

theorem Lane.enabledAs_eq (x : Lane) (e : Bool) : x.enabledAs e =
    if x.mode ≠ .disabled ∧ e = false then Lane.governed { x with
      mode := .disabled,
      reader := { x.reader with state := .offline, failures := 0, offlineSkip := 0, verdict := none, carried := false },
      loiterTimer := none, loiterMark := false, timer := none, carry := false }
    else if x.mode = .disabled ∧ e = true then Lane.governed { x with
      mode := .auto, carry := false,
      timer := (match x.settings.pace with | .paced => none | .free => x.timer),
      loiterTimer := if x.recognizer = .clear then x.loiterTimer
        else some { elapsed := 0, limit := 1000 * x.settings.loiterTime } }
    else x := by
  have hmode := LaneMode.enabled_iff x.mode
  unfold Lane.enabledAs
  by_cases hm : x.mode = .disabled
  · cases e <;> simp [hm, LaneMode.enabled] <;> rfl
  · have hon : x.mode.enabled = true := hmode.2 hm
    cases e
    · simp only [hon, hm, ne_eq, not_false_eq_true, and_self, if_true, Bool.false_eq_true, if_false]
      rfl
    · simp [hm, hon]

theorem Lane.cleared_obstruction (x : Lane) : x.cleared .obstructionOnly =
    (let u : Lane := { x with faults := { x.faults with obstruction := false }, rearm := .idle }
      if u.faults.stuck then u else { u with gate := u.gateAfter .closeArm }) := by
  have hremove : x.faults.remove .obstructionOnly = { x.faults with obstruction := false } := by
    simp [FaultSet.remove, FaultSet.obstructionOnly]
  have hany : (x.faults.remove .obstructionOnly).any = x.faults.stuck := by simp [hremove, FaultSet.any]
  have hcleared : x.clearFaults .obstructionOnly =
      { x with faults := { x.faults with obstruction := false }, rearm := .idle } := by
    rw [Lane.clearFaults, hremove]
    rfl
  rw [Lane.cleared, hany, hcleared]
  rfl

theorem Lane.pacedAs_eq (x : Lane) (old p : PaceMode) : Lane.pacedAs old x p =
    if p = old then x
    else
      let z : Lane := { x with settings := { x.settings with pace := p }, timer := none, carry := false }
      if p = .free ∧ z.rearm = .rearmed then
        let u : Lane := { z with faults := { z.faults with obstruction := false }, rearm := .idle }
        Lane.governed (if u.faults.stuck then u else { u with gate := u.gateAfter .closeArm })
      else z.governed := by
  rw [Lane.pacedAs, Lane.cleared_obstruction]
  rfl

theorem Lane.faultedAs_eq (x : Lane) (old f : FaultMode) : Lane.faultedAs old x f =
    if f = old then x
    else
      let z : Lane := { x with settings := { x.settings with fault := f } }
      match f with
      | .latched => { z with rearm := .idle }
      | .autoClear =>
        if z.faults.obstruction = true ∧ z.obstruction.accepted = false then
          { z with rearm := .timing { elapsed := 0, limit := z.settings.rearmTime } }
        else z := by
  unfold Lane.faultedAs
  split
  · rfl
  · cases f with
    | latched => rfl
    | autoClear =>
      simp only [Lane.refault, Bool.and_eq_true, Bool.not_eq_true']
      rfl

/-- Settles O29: the lane, its records and the outstanding poll, setting after setting. -/
theorem namedSettingsChange : Obligations.NamedSettingsChange := by
  intro s n m1 m0 enable pace fault numbers l e p f hl hlength hg h x given value taken he hp hf disables
    enables governed numbered enabled paced faulted faultFirst y clears records
  have he' : given 0 = true → enableOf enable = some e := fun hgiven => by
    rw [if_pos hgiven] at he
    cases e <;> rw [he] <;> rfl
  have hp' : given 1 = true → PaceMode.ofCode pace = some p := fun hgiven => by
    rw [if_pos hgiven] at hp
    cases p <;> rw [hp] <;> rfl
  have hf' : given 2 = true → FaultMode.ofCode fault = some f := fun hgiven => by
    rw [if_pos hgiven] at hf
    cases f <;> rw [hf] <;> rfl
  have hekept : given 0 = false → e = (s.lane l).mode.enabled := fun hgiven => by
    rw [hgiven] at he
    exact Bool.eq_iff_iff.2 (he.trans (LaneMode.enabled_iff _).symm)
  have hpkept : given 1 = false → p = (s.lane l).settings.pace := fun hgiven => by
    rw [hgiven] at hp
    exact hp
  have hfkept : given 2 = false → f = (s.lane l).settings.fault := fun hgiven => by
    rw [hgiven] at hf
    exact hf
  have hserve : serveLaneConfig (n :: m1 :: m0 :: enable :: pace :: fault :: numbers) s = _ :=
    (serveLaneConfig_taken hlength hl he' hp' hf').trans (configureLane_none hekept hpkept hfkept hg)
  have hnumbered : (s.lane l).numbered (presenceBit m1 m0) (sentNumber numbers) = numbered := rfl
  rw [hnumbered] at hserve
  have henabled : numbered.enabledAs e = enabled := Lane.enabledAs_eq numbered e
  have hpaced (z : Lane) : Lane.pacedAs x.settings.pace z p = paced z := Lane.pacedAs_eq z _ p
  have hfaulted (z : Lane) : Lane.faultedAs x.settings.fault z f = faulted z := Lane.faultedAs_eq z _ f
  have hlane : numbered.named e p f = y := by
    rw [Lane.named, henabled]
    simp only [y, ← hpaced, ← hfaulted]
    rfl
  have hrecords : enableRecords l numbered e ++ paceRecords l numbered p f = records := by
    have henable : enableRecords l numbered e =
        if disables ∧ x.mode.heldCommand.isSome = true then [.laneEvent l .holdLeft] else [] := by
      simp only [enableRecords, disables, and_assoc]
      rfl
    rw [henable]
    rfl
  simp only [hlane, hrecords] at hserve
  exact answers_of_serve rfl h hserve

end Sys2Proof.Machine

/-! LANE_STATUS (R50, R76, R99, R122), item by item. -/

namespace Sys2Proof.Machine

open Sys2Proof.Safety

variable {s t : State} {l : Lane.Index} {x y : Lane}

/-! ## Rows and their bytes -/

theorem flag_eq (b : Bool) : flag b = item 1 (oneBit b) := by
  cases b <;> simp [flag, oneBit, item_one]

theorem fields_length (rows : List (Nat × Nat)) : (fields rows).length = (rows.map Prod.fst).sum := by
  induction rows with
  | nil => rfl
  | cons r rows ih => rw [fields_cons, List.length_append, item_length, ih, List.map_cons, List.sum_cons]

theorem optRows_length {width : Nat} {o : Option (List (Nat × Nat))}
    (h : ∀ rows, o = some rows → (rows.map Prod.fst).sum = width) : ((optRows width o).map Prod.fst).sum = 1 + width := by
  cases o with
  | none => simp [optRows]
  | some rows => simp [optRows, h rows rfl]

/-! ## The parts -/

/-- The reader part (R50). -/
def readerRows (c : ReaderContext) : List (Nat × Nat) :=
  [(1, match c.state with | .offline => 0 | .online => 1), (1, c.failures)] ++
    optRows 1 (c.lastTag.map (fun t => [(1, t)])) ++
    optRows 2 (c.verdict.map (fun v => [(1, v.kind), (1, v.value)])) ++
    optRows 10 (c.lastCredential.map (fun c =>
      [(5, c.serial), (1, match c.media with | .card => 0 | .token => 1), (1, c.quality), (3, c.time)]))

/-- The waiting slot (R76). -/
def waitingRows (w : Option Waiting) : List (Nat × Nat) :=
  optRows 12 (w.map (fun w => [(5, w.serial), (1, w.product), (1, w.firstDay), (3, w.arrival), (2, w.age)]))

/-- The grant part (R99). -/
def grantRows (g : Option Grant) : List (Nat × Nat) :=
  optRows 18 (g.map (fun g =>
    [(5, g.serial), (1, g.product), (1, g.allowance), (1, g.passages),
      (1, match g.state with | .waiting => 0 | .opened => 1 | .draining => 2), (1, oneBit g.committed),
      (3, g.created), (3, g.deadline), (2, g.lifetime.limit - g.lifetime.elapsed)]))

/-- The recognizer part (R99). -/
def recognizerRows (x : Lane) : List (Nat × Nat) :=
  [(1, match x.recognizer with
      | .clear => 0 | .enterF => 1 | .crossF => 2 | .leaveF => 3 | .followF => 4
      | .enterR => 5 | .crossR => 6 | .leaveR => 7 | .followR => 8),
    (1, oneBit x.beamA.accepted), (1, oneBit x.beamB.accepted),
    (1, oneBit (x.beamA.running.isSome || x.beamB.running.isSome)), (1, oneBit x.loiterMark)]

/-- The gate part (R122). -/
def gateRows (x : Lane) : List (Nat × Nat) :=
  [(1, modeCode x.mode)] ++
    optRows 1 (match x.mode with
      | .held .openArm => some [(1, 0)]
      | .held .closeArm => some [(1, 1)]
      | .held .freeArm => some [(1, 2)]
      | _ => none) ++
    [(1, match x.gate with | .shut => 0 | .opened => 1 | .closing _ => 2 | .released => 3)] ++
    optRows 2 (match x.gate with | .closing k => some [(2, k.limit - k.elapsed)] | _ => none) ++
    [(1, oneBit x.armClosed), (1, oneBit x.obstruction.accepted),
      (1, oneBit x.faults.obstruction + 2 * oneBit x.faults.stuck),
      (1, match x.settings.fault with | .latched => 0 | .autoClear => 1)] ++
    optRows 2 (match x.rearm with | .timing k => some [(2, k.limit - k.elapsed)] | _ => none) ++
    [(1, match x.rearm with | .rearmed => 1 | _ => 0), (1, match x.settings.pace with | .free => 0 | .paced => 1)] ++
    optRows 2 (x.timer.map (fun k => [(2, k.t)])) ++
    [(1, oneBit x.windowActive), (1, oneBit x.carry), (2, x.effective.openAt), (2, x.effective.closeAt),
      (2, x.settings.pending.openAt), (2, x.settings.pending.closeAt)] ++ settingRows x

/-- The bank part (R122). -/
def bankRows (p : Pacing) : List (Nat × Nat) :=
  [(1, match p.source with | .external => 0 | .internal => 1), (1, match p.lift with | .stopped => 0 | .running => 1)] ++
    optRows 4 (p.sinceSync.map (fun ms => [(4, ms)])) ++ optRows 2 (p.measured.map (fun ms => [(2, ms)])) ++
    [(2, p.internalPeriod), (2, p.syncLossTime)]

theorem readerItem_eq (c : ReaderContext) : c.statusItem = fields (readerRows c) := by
  have hstate : c.state.code = match c.state with | .offline => 0 | .online => 1 := by cases c.state <;> rfl
  have htag : optItem 1 c.lastTag (item 1) = fields (optRows 1 (c.lastTag.map fun t => [(1, t)])) :=
    optItem_eq 1 _ _ _ fun t => by simp [fields_cons, fields_nil]
  have hverdict : optItem 2 c.verdict (fun v => item 1 v.kind ++ item 1 v.value) =
      fields (optRows 2 (c.verdict.map fun v => [(1, v.kind), (1, v.value)])) :=
    optItem_eq 2 _ _ _ fun v => by simp [fields_cons, fields_nil]
  have hmedia (m : MediaKind) : m.code = match m with | .card => 0 | .token => 1 := by cases m <;> rfl
  have hcredential : optItem 10 c.lastCredential
      (fun k => item 5 k.serial ++ item 1 k.media.code ++ item 1 k.quality ++ item 3 k.time) =
        fields (optRows 10 (c.lastCredential.map fun c =>
          [(5, c.serial), (1, match c.media with | .card => 0 | .token => 1), (1, c.quality), (3, c.time)])) :=
    optItem_eq 10 _ _ _ fun k => by simp [fields_cons, fields_nil, hmedia]
  rw [ReaderContext.statusItem, htag, hverdict, hcredential]
  simp only [readerRows, fields_append, fields_cons, fields_nil, hstate, List.append_assoc, List.append_nil]

theorem waitingItem_eq (w : Option Waiting) : waitingItem w = fields (waitingRows w) :=
  optItem_eq 12 w _ _ fun w => by simp [fields_cons, fields_nil]

theorem grantItem_eq (g : Option Grant) : grantItem g = fields (grantRows g) := by
  have hstate (g : GrantState) : g.code = match g with | .waiting => 0 | .opened => 1 | .draining => 2 := by
    cases g <;> rfl
  refine optItem_eq 18 g _ _ fun g => ?_
  simp only [fields_cons, fields_nil, hstate, flag_eq, Timer.left, List.append_assoc, List.append_nil]

theorem recognizerItem_eq (x : Lane) : x.recognizerItem = fields (recognizerRows x) := by
  have hstate : x.recognizer.code = match x.recognizer with
      | .clear => 0 | .enterF => 1 | .crossF => 2 | .leaveF => 3 | .followF => 4
      | .enterR => 5 | .crossR => 6 | .leaveR => 7 | .followR => 8 := by cases x.recognizer <;> rfl
  simp only [Lane.recognizerItem, Lane.debouncing, recognizerRows, fields_cons, fields_nil, hstate, flag_eq,
    List.append_assoc, List.append_nil]

theorem heldItem_eq (m : LaneMode) : heldItem m.heldCommand = fields (optRows 1 (match m with
    | .held .openArm => some [(1, 0)]
    | .held .closeArm => some [(1, 1)]
    | .held .freeArm => some [(1, 2)]
    | _ => none)) := by
  have hmap : heldItem m.heldCommand = fields (optRows 1 (m.heldCommand.map fun c => [(1, c.code)])) :=
    optItem_eq 1 _ _ _ fun c => by simp [fields_cons, fields_nil]
  rw [hmap]
  cases m with
  | held c => cases c <;> rfl
  | auto => rfl
  | holdPending => rfl
  | disabled => rfl

theorem limitItem_eq (g : GateState) : optItem 2 g.limitLeft (item 2) =
    fields (optRows 2 (match g with | .closing k => some [(2, k.limit - k.elapsed)] | _ => none)) := by
  have hmap : optItem 2 g.limitLeft (item 2) = fields (optRows 2 (g.limitLeft.map fun v => [(2, v)])) :=
    optItem_eq 2 _ _ _ fun c => by simp [fields_cons, fields_nil]
  rw [hmap]
  cases g <;> rfl

theorem rearmItem_eq (r : Rearm) : optItem 2 r.left (item 2) =
    fields (optRows 2 (match r with | .timing k => some [(2, k.limit - k.elapsed)] | _ => none)) := by
  have hmap : optItem 2 r.left (item 2) = fields (optRows 2 (r.left.map fun v => [(2, v)])) :=
    optItem_eq 2 _ _ _ fun c => by simp [fields_cons, fields_nil]
  rw [hmap]
  cases r <;> rfl

theorem gateItem_eq (x : Lane) : x.gateItem = fields (gateRows x) := by
  have hgate : x.gate.code = match x.gate with | .shut => 0 | .opened => 1 | .closing _ => 2 | .released => 3 := by
    cases x.gate <;> rfl
  have hfault : x.settings.fault.code = match x.settings.fault with | .latched => 0 | .autoClear => 1 := by
    cases x.settings.fault <;> rfl
  have hpace : x.settings.pace.code = match x.settings.pace with | .free => 0 | .paced => 1 := by
    cases x.settings.pace <;> rfl
  have hrearmed : oneBit (x.rearm == .rearmed) = match x.rearm with | .rearmed => 1 | _ => 0 := by
    cases x.rearm <;> rfl
  have htimer : optItem 2 (x.timer.map LaneTimer.t) (item 2) = fields (optRows 2 (x.timer.map fun k => [(2, k.t)])) := by
    rw [optItem_eq 2 (x.timer.map LaneTimer.t) (item 2) (fun v => [(2, v)]) fun v => by simp [fields_cons, fields_nil],
      Option.map_map]
    rfl
  simp only [Lane.gateItem, gateRows, fields_append, fields_cons, fields_nil, hgate, hfault, hpace, htimer, flag_eq,
    hrearmed, heldItem_eq, limitItem_eq, rearmItem_eq, Lane.faultItem_eq, LaneMode.code_eq, settingsItem_eq, Window.item,
    List.append_assoc, List.append_nil]

theorem bankItem_eq (p : Pacing) : p.statusItem = fields (bankRows p) := by
  have hsource : p.source.code = match p.source with | .external => 0 | .internal => 1 := by cases p.source <;> rfl
  have hlift : p.lift.code = match p.lift with | .stopped => 0 | .running => 1 := by cases p.lift <;> rfl
  have hsince : optItem 4 p.sinceSync (item 4) = fields (optRows 4 (p.sinceSync.map fun ms => [(4, ms)])) :=
    optItem_eq 4 _ _ _ fun v => by simp [fields_cons, fields_nil]
  have hmeasured : optItem 2 p.measured (item 2) = fields (optRows 2 (p.measured.map fun ms => [(2, ms)])) :=
    optItem_eq 2 _ _ _ fun v => by simp [fields_cons, fields_nil]
  simp only [Pacing.statusItem, bankRows, fields_append, fields_cons, fields_nil, hsource, hlift, hsince, hmeasured,
    List.append_assoc, List.append_nil]

/-! ## Their lengths -/

theorem optRows_map_length {α : Type} {width : Nat} (o : Option α) (rows : α → List (Nat × Nat))
    (h : ∀ a, ((rows a).map Prod.fst).sum = width) : ((optRows width (o.map rows)).map Prod.fst).sum = 1 + width :=
  optRows_length fun bs hb => by
    obtain ⟨a, -, rfl⟩ := Option.map_eq_some_iff.1 hb
    exact h a

theorem gateRows_length (x : Lane) : ((gateRows x).map Prod.fst).sum = 44 := by
  have hheld : ((optRows 1 (match x.mode with
      | .held .openArm => some [(1, 0)]
      | .held .closeArm => some [(1, 1)]
      | .held .freeArm => some [(1, 2)]
      | _ => none)).map Prod.fst).sum = 1 + 1 := optRows_length fun rows hr => by
    split at hr <;> cases hr <;> rfl
  have hlimit : ((optRows 2 (match x.gate with
      | .closing k => some [(2, k.limit - k.elapsed)] | _ => none)).map Prod.fst).sum = 1 + 2 :=
    optRows_length fun rows hr => by split at hr <;> cases hr <;> rfl
  have hrearm : ((optRows 2 (match x.rearm with
      | .timing k => some [(2, k.limit - k.elapsed)] | _ => none)).map Prod.fst).sum = 1 + 2 :=
    optRows_length fun rows hr => by split at hr <;> cases hr <;> rfl
  have htimer : ((optRows 2 (x.timer.map fun k => [(2, k.t)])).map Prod.fst).sum = 1 + 2 :=
    optRows_map_length _ _ fun k => rfl
  simp only [gateRows, settingRows, List.map_append, List.sum_append, List.map_cons, List.map_nil, List.sum_cons,
    List.sum_nil, htimer, hheld, hlimit, hrearm]
  rfl

theorem statusRows_length (s : State) (l : Lane.Index) :
    (fields (readerRows (s.lane l).reader ++ waitingRows (s.lane l).waiting ++ grantRows (s.lane l).grant ++
      recognizerRows (s.lane l) ++ gateRows (s.lane l) ++ bankRows s.pacing)).length = 113 := by
  have hreader (c : ReaderContext) : ((readerRows c).map Prod.fst).sum = 18 := by
    have htag := optRows_map_length (width := 1) c.lastTag (fun t => [(1, t)]) fun _ => rfl
    have hverdict := optRows_map_length (width := 2) c.verdict (fun v => [(1, v.kind), (1, v.value)]) fun _ => rfl
    have hcredential := optRows_map_length (width := 10) c.lastCredential (fun c =>
      [(5, c.serial), (1, match c.media with | .card => 0 | .token => 1), (1, c.quality), (3, c.time)]) fun _ => rfl
    simp only [readerRows, List.map_append, List.sum_append, List.map_cons, List.map_nil, List.sum_cons, List.sum_nil,
      htag, hverdict, hcredential]
    rfl
  have hwaiting (w : Option Waiting) : ((waitingRows w).map Prod.fst).sum = 13 := optRows_map_length w _ fun _ => rfl
  have hgrant (g : Option Grant) : ((grantRows g).map Prod.fst).sum = 19 := optRows_map_length g _ fun _ => rfl
  have hbank (p : Pacing) : ((bankRows p).map Prod.fst).sum = 14 := by
    have hsince := optRows_map_length (width := 4) p.sinceSync (fun ms => [(4, ms)]) fun _ => rfl
    have hmeasured := optRows_map_length (width := 2) p.measured (fun ms => [(2, ms)]) fun _ => rfl
    simp only [bankRows, List.map_append, List.sum_append, List.map_cons, List.map_nil, List.sum_cons, List.sum_nil,
      hsince, hmeasured]
    rfl
  have hrecognizer (x : Lane) : ((recognizerRows x).map Prod.fst).sum = 5 := rfl
  simp only [fields_length, List.map_append, List.sum_append, hreader, hwaiting, hgrant, hrecognizer, gateRows_length,
    hbank]

/-- Settles O27: the parts in their order, and their lengths. -/
theorem laneStatusReads : Obligations.LaneStatusReads := by
  intro s n l hl h x p reader waiting grant recognizer gate bank results
  have hresults : s.laneStatusResults l = results := by
    rw [State.laneStatusResults]
    simp only [readerItem_eq, waitingItem_eq, grantItem_eq, recognizerItem_eq, gateItem_eq, bankItem_eq, ← fields_append]
    rfl
  exact ⟨answers_of_serveLane rfl h hl (congrArg (Served.answered s .ok) hresults), statusRows_length s l⟩

end Sys2Proof.Machine

/-! The carrier: the lift's stop (R113) and BANK_CONFIG (R121). -/

namespace Sys2Proof.Machine

open Sys2Proof.Safety

variable {s t u : State} {l : Lane.Index} {x y : Lane}

/-! ## Lane after lane -/

/-- Two events that agree at a lane as it was before the round agree over the round, since no event reaches another lane. -/
theorem foldl_lanes_congr {f g : State → Lane.Index → State} (hlocal : ∀ l v, LocalTo l v (g v l))
    (hagree : ∀ l v, v.lane l = u.lane l → f v l = g v l) :
    ∀ (ls : List Lane.Index), ls.Nodup → ∀ v : State, (∀ l ∈ ls, v.lane l = u.lane l) → ls.foldl f v = ls.foldl g v
  | [], _, _, _ => rfl
  | k :: ks, hnodup, v, hv => by
    obtain ⟨hk, hks⟩ := List.nodup_cons.1 hnodup
    rw [List.foldl_cons, List.foldl_cons, hagree k v (hv k List.mem_cons_self)]
    refine foldl_lanes_congr hlocal hagree ks hks _ fun l hl => ?_
    rw [(hlocal k v).lane l fun h => hk (h ▸ hl), hv l (List.mem_cons_of_mem _ hl)]

theorem eachLane_congr {f g : State → Lane.Index → State} (hlocal : ∀ l v, LocalTo l v (g v l))
    (hagree : ∀ l v, v.lane l = u.lane l → f v l = g v l) : allLanes.foldl f u = allLanes.foldl g u :=
  foldl_lanes_congr hlocal hagree allLanes allLanes_nodup u fun _ _ => rfl

theorem foldl_lanes_pacing {g : State → Lane.Index → State} (hlocal : ∀ l v, LocalTo l v (g v l))
    (ls : List Lane.Index) (v : State) : (ls.foldl g v).pacing = v.pacing :=
  List.foldlRecOn (motive := fun w : State => w.pacing = v.pacing) ls _ rfl fun w hw l _ => by
    rw [(hlocal l w).pacing, hw]

/-! ## The lift's stop -/

theorem localTo_if_rederive (c : Lane.Index → State → Prop) [∀ l v, Decidable (c l v)] (l : Lane.Index) (v : State) :
    LocalTo l v (if c l v then v.rederive l else v) := by
  split
  · exact (LocalTo.refl l v).rederive
  · exact .refl l v

theorem stopLift_eq_liftStopped (u : State) : u.stopLift = liftStopped u := by
  have hfold : State.eachLane { u with pacing := u.pacing.stop, lanes := u.lanes.map Lane.liftStop }
      (fun l s => if (s.lane l).settings.pace = .paced then s.rederive l else s) =
      allLanes.foldl (fun v l => if (u.lane l).settings.pace = .paced then v.rederive l else v)
        { u with pacing := u.pacing.stop, lanes := u.lanes.map Lane.liftStop } := by
    refine eachLane_congr (fun l v => localTo_if_rederive (fun l _ => (u.lane l).settings.pace = .paced) l v)
      fun l v hv => ?_
    have hpace : (v.lane l).settings.pace = (u.lane l).settings.pace := by
      rw [hv]
      simp only [State.lane, Fin.getElem_fin, Vector.getElem_map]
      rfl
    simp only [hpace]
  rw [State.stopLift_eq, hfold]
  rfl

theorem liftStopped_pacing (u : State) : (liftStopped u).pacing = u.pacing.stop := by
  have hfold := foldl_lanes_pacing
    (fun l v => localTo_if_rederive (fun l _ => (u.lane l).settings.pace = .paced) l v) allLanes
    { u with pacing := u.pacing.stop, lanes := u.lanes.map Lane.liftStop }
  exact (State.append_pacing _ _).trans hfold

/-! ## BANK_CONFIG -/

/-- The pacing with the numbers of a request taken (R121). -/
def Pacing.numbered (p : Pacing) (presence : Byte) (period loss : Nat) : Pacing :=
  { p with
    internalPeriod := if presence.getLsbD 1 then max 1000 (min 30000 period) else p.internalPeriod,
    syncLossTime := if presence.getLsbD 2 then max 2 (min 60 loss) else p.syncLossTime }

/-- A new sync-loss time compared, where one is given (R121). -/
def State.compared (s : State) (presence : Byte) : State := if presence.getLsbD 2 then s.checkSyncLoss else s

theorem serveBankConfig_eq (presence source p1 p0 t1 t0 : Byte) :
    serveBankConfig [presence, source, p1, p0, t1, t0] s =
      let n : State := { s with pacing := s.pacing.numbered presence (ofBe [p1, p0]) (ofBe [t1, t0]) }
      let answered (t : State) : Served :=
        .answered (t.compared presence) .ok (t.compared presence).pacing.settingsItem
      if presence.getLsbD 0 then
        match PaceSource.ofCode source with
        | none => .answered s .badValue []
        | some src => answered (n.setSource src)
      else answered n := by
  simp only [serveBankConfig, bitOf]
  rfl

theorem settingsItem_fields (p : Pacing) : p.settingsItem =
    fields [(1, match p.source with | .external => 0 | .internal => 1), (2, p.internalPeriod), (2, p.syncLossTime)] := by
  have hsource : p.source.code = match p.source with | .external => 0 | .internal => 1 := by cases p.source <;> rfl
  simp only [Pacing.settingsItem, fields_cons, fields_nil, hsource, List.append_nil, List.append_assoc]

theorem checkSyncLoss_of_none (h : s.pacing.syncLoss = none) : s.checkSyncLoss = s := by
  simp only [State.checkSyncLoss, h]

theorem checkSyncLoss_of_some {ms : Nat} (h : s.pacing.syncLoss = some ms) :
    s.checkSyncLoss = if 1000 * s.pacing.syncLossTime ≤ ms then liftStopped s else s := by
  simp only [State.checkSyncLoss, h, stopLift_eq_liftStopped]

theorem State.append_overPacing (s : State) (p q : Pacing) (body : RecordBody) :
    { (State.append { s with pacing := p } body) with pacing := q } = { (s.append body) with pacing := q } :=
  (State.append_setPacing s p q body).trans (State.append_setPacing s s.pacing q body).symm

theorem State.toInternal_eq (s : State) (p : Pacing) : State.toInternal { s with pacing := p } =
    { (if p.lift = .stopped then s.append (.liftEvent .running) else s) with pacing := { p with
      source := .internal, lift := .running, syncLoss := none,
      generator := some { elapsed := 0, limit := p.internalPeriod }, sinceEdge := none, measured := none } } := by
  have hpacing := resumed_pacing { s with pacing := p }
  simp only [State.toInternal, hpacing]
  split
  · exact State.append_overPacing s { p with lift := .running } _ _
  · rfl

theorem sourceOf_code {b : Byte} {src : PaceSource} (h : b.toNat = src.code) : PaceSource.ofCode b = some src := by
  cases src with
  | external => rw [show b = 0#8 from BitVec.eq_of_toNat_eq h]; rfl
  | internal => rw [show b = 1#8 from BitVec.eq_of_toNat_eq h]; rfl

theorem compared_settingsItem (t : State) (presence : Byte) :
    (t.compared presence).pacing.settingsItem = t.pacing.settingsItem := by
  have hstopped : (liftStopped t).pacing.settingsItem = t.pacing.settingsItem := by
    rw [liftStopped_pacing]
    rfl
  unfold State.compared
  split
  · cases hloss : t.pacing.syncLoss with
    | none => rw [checkSyncLoss_of_none hloss]
    | some ms =>
      rw [checkSyncLoss_of_some hloss]
      split
      · exact hstopped
      · rfl
  · rfl

theorem State.compared_of_lt {presence : Byte} (h : presence.getLsbD 2 = true → ∀ ms, t.pacing.syncLoss = some ms →
    ms < 1000 * t.pacing.syncLossTime) : t.compared presence = t := by
  unfold State.compared
  split
  · rename_i hgiven
    cases hloss : t.pacing.syncLoss with
    | none => exact checkSyncLoss_of_none hloss
    | some ms => rw [checkSyncLoss_of_some hloss, if_neg (by have := h hgiven ms hloss; omega)]
  · rfl

/-- Settles O30: the numbers, then the source, then the new sync-loss time. -/
theorem bankConfigTakesSettings : Obligations.BankConfigTakesSettings := by
  intro s presence source p1 p0 t1 t0 h p period loss values code numbered
  have hnumbered : s.pacing.numbered presence (ofBe [p1, p0]) (ofBe [t1, t0]) = numbered := rfl
  have hserve := serveBankConfig_eq (s := s) presence source p1 p0 t1 t0
  rw [hnumbered] at hserve
  have hvalues : numbered.settingsItem = values code := settingsItem_fields numbered
  have hsource {src : PaceSource} (hgiven : presence.getLsbD 0 = true) (hsrc : PaceSource.ofCode source = some src) :
      serveBankConfig [presence, source, p1, p0, t1, t0] s =
        .answered ((State.setSource { s with pacing := numbered } src).compared presence) .ok
          (State.setSource { s with pacing := numbered } src).pacing.settingsItem := by
    rw [hserve]
    simp only [hgiven, if_true, hsrc, compared_settingsItem]
  have hkept (hcode : presence.getLsbD 0 = true → source.toNat = code) :
      serveBankConfig [presence, source, p1, p0, t1, t0] s =
        .answered (State.compared { s with pacing := numbered } presence) .ok (values code) := by
    cases hgiven : presence.getLsbD 0 with
    | false =>
      rw [hserve]
      simp only [hgiven, Bool.false_eq_true, if_false, compared_settingsItem, hvalues]
    | true =>
      have hsrc : PaceSource.ofCode source = some p.source := by
        have hbyte : code = s.pacing.source.code := by
          change (match s.pacing.source with | .external => 0 | .internal => 1) = _
          cases s.pacing.source <;> rfl
        exact sourceOf_code ((hcode hgiven).trans hbyte)
      have hsame : State.setSource { s with pacing := numbered } p.source = { s with pacing := numbered } := if_pos rfl
      rw [hsource hgiven hsrc, hsame, hvalues]
  refine ⟨fun hgiven h0 h1 => answers_of_serve rfl h ?_, fun hcode => ⟨fun hloss => answers_of_serve rfl h ?_,
    fun hgiven ms hms hle => answers_of_serve rfl h ?_⟩, fun hgiven hinternal hexternal => answers_of_serve rfl h ?_,
    fun hgiven hexternal hinternal => answers_of_serve rfl h ?_⟩
  · rw [hserve]
    simp only [hgiven, if_true, PaceSource.ofCode, h0, h1, if_false]
  · rw [hkept hcode, State.compared_of_lt]
    exact hloss
  · rw [hkept hcode, State.compared, if_pos hgiven]
    exact congrArg (fun u => Served.answered u .ok (values code)) 
      ((checkSyncLoss_of_some (s := { s with pacing := numbered }) hms).trans (if_pos hle))
  · have hset : State.setSource { s with pacing := numbered } .internal = State.toInternal { s with pacing := numbered } :=
      if_neg (by change ¬PaceSource.internal = p.source; rw [hexternal]; decide)
    rw [hsource hgiven (by rw [hinternal]; rfl), hset, State.toInternal_eq, State.compared_of_lt fun _ ms hms => by cases hms]
    exact congrArg (Served.answered _ .ok) (settingsItem_fields _)
  · have hset : State.setSource { s with pacing := numbered } .external = State.toExternal { s with pacing := numbered } :=
      if_neg (by change ¬PaceSource.external = p.source; rw [hinternal]; decide)
    have hloss : presence.getLsbD 2 = true → 2 ≤ loss := fun hgiven => by
      simp only [loss, hgiven, if_true]
      omega
    rw [hsource hgiven (by rw [hexternal]; rfl), hset, State.compared_of_lt fun hgiven ms hms => by
      have := hloss hgiven
      cases hms
      change 0 < 1000 * loss
      omega]
    exact congrArg (Served.answered _ .ok) (settingsItem_fields _)

end Sys2Proof.Machine

/-! The count unit's and the day clock's requests: COUNTERS_READ, DAY_OPEN, TIME_SET and the second (R130 to R138). -/

namespace Sys2Proof.Machine

open Sys2Proof.Safety

variable {s t : State} {l : Lane.Index} {x y : Lane}

/-! ## COUNTERS_READ -/

theorem countsItem_eq (c : Counts) (held : Bool) (clock : DayClock) :
    c.bytes ++ flag held ++ clock.dayItem = fields (
      [(2, c.grants), (2, c.completed), (2, c.lapsed), (2, c.riders), (2, c.reverse), (2, c.intrusions),
        (2, c.tailgates), (2, c.denials), (2, c.staff), (2, c.loiters), (2, c.readErrors), (2, c.faults),
        (4, c.ridersSeason), (4, c.intrusionsSeason), (1, oneBit held)] ++ dayRows clock) := by
  simp only [Counts.bytes, flag_eq, dayItem_eq, fields_append, fields_cons, fields_nil, List.append_assoc, List.append_nil]

theorem laneOf_some_ne_zero {n : Byte} (h : laneOf n.toNat = some l) : n ≠ 0#8 := by
  rintro rfl
  rw [laneOf_none (by simp)] at h
  cases h

/-- Settles O31: the bank's tables, a lane's counters, and any other selector. -/
theorem countersRead : Obligations.CountersRead := by
  refine fun s n h => ⟨fun h0 => answers_of_serve rfl h ?_, fun l hl => answers_of_serve rfl h ?_,
    fun h8 => answers_of_serve rfl h ?_⟩
  · rw [serveCountersRead, if_pos h0, dayItem_eq]
  · rw [serveCountersRead, if_neg (laneOf_some_ne_zero hl), hl]
    exact congrArg (Served.answered s .ok) (countsItem_eq _ _ _)
  · rw [serveCountersRead, if_neg (by rintro rfl; simp at h8), laneOf_above h8]
    rfl

/-! ## The time of day -/

theorem ofBe_three (a b c : Byte) : ofBe [a, b, c] = 65536 * a.toNat + 256 * b.toNat + c.toNat := by
  simp only [ofBe, List.foldl_cons, List.foldl_nil]
  omega

theorem tick_eq {c : DayClock} (hday : c.timeOfDay < 86400) (hms : c.millisecond = 1000) :
    c.tick = { c with timeOfDay := if c.timeOfDay = 86399 then 0 else c.timeOfDay + 1, millisecond := 0 } := by
  have htime : (c.timeOfDay + 1) % Config.daySeconds = if c.timeOfDay = 86399 then 0 else c.timeOfDay + 1 := by
    simp only [Config.daySeconds]
    split <;> omega
  rw [DayClock.tick, htime, hms]

theorem State.elapse_clock (s : State) (ms : Nat) :
    (s.elapse ms).clock = { s.clock with millisecond := s.clock.millisecond + ms } := by
  rw [State.elapse, State.advance, State.transmit_clock]

/-- Settles O35: the time taken, and the second at its end. -/
theorem timeOfDaySetAndAdvanced : Obligations.TimeOfDaySetAndAdvanced := by
  refine ⟨fun s t2 t1 t0 h => answers_of_serve rfl h ?_, fun s hday hms => ?_⟩
  · have htime : timeTaken (ofBe [t2, t1, t0]) = min (65536 * t2.toNat + 256 * t1.toNat + t0.toNat) 86399 := by
      rw [ofBe_three, timeTaken, Nat.min_comm]
      rfl
    rw [serveTimeSet]
    simp only [htime, fields_cons, fields_nil, List.append_nil]
    rfl
  · have hclock : (s.elapse (1000 - s.clock.millisecond)).clock = { s.clock with millisecond := 1000 } := by
      rw [State.elapse_clock, Nat.add_sub_cancel' hms]
    have htick : (s.elapse (1000 - s.clock.millisecond)).clock.tick = { s.clock with
        timeOfDay := if s.clock.timeOfDay = 86399 then 0 else s.clock.timeOfDay + 1, millisecond := 0 } := by
      rw [hclock]
      exact tick_eq (c := { s.clock with millisecond := 1000 }) hday rfl
    exact congrArg (fun c => Host.Outcome.next
      (State.transmit { s.elapse (1000 - s.clock.millisecond) with clock := c })) htick

/-! ## DAY_OPEN and its completion -/

theorem dayCode_item (d : DayState) : item 1 d.code = [BitVec.ofNat 8 d.code] := item_one (by cases d <;> simp [DayState.code])

theorem openPasses_mem (ps : List PassRecord) (d : Nat) (r : PassRecord) : r ∈ openPasses ps d ↔
    ∃ q ∈ ps, ¬(q.firstDay + q.window < d + 1) ∧ r = { q with ridesToday := 0, lastPassage := none } := by
  have hkept (q : PassRecord) : (!q.purgedAt d) = true ↔ ¬(q.firstDay + q.window < d + 1) := by
    simp [PassRecord.purgedAt]
  simp only [openPasses, List.mem_map, List.mem_filter, hkept, and_assoc, eq_comm (a := r)]

theorem openPasses_length (ps : List PassRecord) (d : Nat) : (openPasses ps d).length ≤ ps.length := by
  rw [openPasses, List.length_map]
  exact List.length_filter_le _ _

theorem serveDayOpen_eq (day t2 t1 t0 : Byte) : serveDayOpen [day, t2, t1, t0] s =
    if 207 < day.toNat then .answered s .badValue [BitVec.ofNat 8 s.clock.dayState.code]
    else
      match s.clock.dayState.opens day.toNat with
      | none => .answered s .dayOrder [BitVec.ofNat 8 s.clock.dayState.code]
      | some former => .begun (s.acceptOpening day.toNat (min 86399 (ofBe [t2, t1, t0])) former) := by
  have hlimit : Config.seasonDays ≤ day.toNat ↔ 207 < day.toNat := Iff.rfl
  rw [← dayCode_item]
  by_cases h : 207 < day.toNat
  · rw [if_pos h]
    exact if_pos (hlimit.2 h)
  · rw [if_neg h]
    exact if_neg fun hd => h (hlimit.1 hd)

/-- Settles O33: the refusals, the acceptance, and the completion. -/
theorem dayOpens : Obligations.DayOpens := by
  refine ⟨fun s day t2 t1 t0 h => ⟨fun hd => ?_, fun hd horder hday => ?_, fun former hd hformer => ?_⟩,
    fun s d t former hopening => ⟨openPasses s.passes d, openPasses_mem _ d, openPasses_length _ d, ?_⟩⟩
  · exact answers_of_serve rfl h ((serveDayOpen_eq day t2 t1 t0).trans (if_pos hd))
  · have hopens : s.clock.dayState.opens day.toNat = none := by
      cases hs : s.clock.dayState with
      | noDay => exact absurd hs hday
      | opening => rfl
      | dayOpen => rfl
      | dayClosed e => exact if_neg (by have := horder e hs; omega)
    refine answers_of_serve rfl h ((serveDayOpen_eq day t2 t1 t0).trans ((if_neg (by omega)).trans ?_))
    rw [hopens]
  · have hopens : s.clock.dayState.opens day.toNat = some former := by
      rcases hformer with ⟨hs, rfl⟩ | ⟨e, hs, he, rfl⟩
      · rw [hs]; rfl
      · rw [hs]; exact if_pos he
    have hserve : serveDayOpen [day, t2, t1, t0] s =
        .begun (s.acceptOpening day.toNat (min 86399 (ofBe [t2, t1, t0])) former) := by
      rw [serveDayOpen_eq, if_neg (by omega), hopens]
    change Host.Outcome.next (s.serve 66#8 serveDayOpen) = _
    rw [State.serve_taken h, hserve]
    simp only [Served.finish, State.acceptOpening, mapLanes_eq]
    rfl
  · change Host.Outcome.next _ = _
    simp only [hopening]
    rfl

end Sys2Proof.Machine

/-! DAY_CLOSE (R95, R139, R140): the ends of the grants lane by lane, and the state that they leave. -/

namespace Sys2Proof.Machine

open Sys2Proof.Safety

variable {s t : State} {l : Lane.Index} {x y : Lane} {ps : List PassRecord} {bodies : List RecordBody}

/-! ## Records appended beside the lanes, the passes and the day state -/

theorem State.append_with (s : State) (b : RecordBody) (lanes : Vector Lane 8) (ps : List PassRecord) (c : DayClock)
    (hday : c.dayState.today = s.clock.dayState.today) (htime : c.timeOfDay = s.clock.timeOfDay)
    (hset : c.isSet = s.clock.isSet) :
    { (s.append b) with lanes := lanes, passes := ps, clock := c } =
      State.append { s with lanes := lanes, passes := ps, clock := c } b := by
  by_cases hroom : s.reports.records.length < Config.reportCapacity
  · by_cases hmark : s.reports.records.length + 1 = Config.backlogMark <;>
      simp only [State.append, State.raise, hroom, hmark, hday, htime, hset, if_true, if_false]
  · simp only [State.append, State.raise, hroom, if_false]

theorem State.foldl_append_with (bodies : List RecordBody) (s : State) (lanes : Vector Lane 8) (ps : List PassRecord)
    (c : DayClock) (hday : c.dayState.today = s.clock.dayState.today) (htime : c.timeOfDay = s.clock.timeOfDay)
    (hset : c.isSet = s.clock.isSet) :
    { (bodies.foldl State.append s) with lanes := lanes, passes := ps, clock := c } =
      bodies.foldl State.append { s with lanes := lanes, passes := ps, clock := c } := by
  induction bodies generalizing s with
  | nil => rfl
  | cons b bs ih =>
    exact (ih (s.append b) (by rw [State.append_clock, hday]) (by rw [State.append_clock, htime])
      (by rw [State.append_clock, hset])).trans
        (congrArg (fun u => bs.foldl State.append u) (State.append_with s b lanes ps c hday htime hset))

theorem State.foldl_append_frame (bodies : List RecordBody) (s : State) :
    (bodies.foldl State.append s).lanes = s.lanes ∧ (bodies.foldl State.append s).passes = s.passes ∧
      (bodies.foldl State.append s).clock = s.clock :=
  List.foldlRecOn (motive := fun u : State => u.lanes = s.lanes ∧ u.passes = s.passes ∧ u.clock = s.clock) bodies _
    ⟨rfl, rfl, rfl⟩ fun u hu b _ => by
      rw [State.append_lanes, State.append_passes, State.append_clock]
      exact hu

theorem State.foldl_append_setClock (bodies : List RecordBody) (s : State) (c : DayClock)
    (hday : c.dayState.today = s.clock.dayState.today) (htime : c.timeOfDay = s.clock.timeOfDay)
    (hset : c.isSet = s.clock.isSet) :
    { (bodies.foldl State.append s) with clock := c } = bodies.foldl State.append { s with clock := c } := by
  obtain ⟨hlanes, hpasses, -⟩ := State.foldl_append_frame bodies s
  refine (State.foldl_append_with bodies s s.lanes s.passes c hday htime hset).symm ▸ ?_
  rw [← hlanes, ← hpasses]

theorem State.foldl_append_setLanes (bodies : List RecordBody) (s : State) (lanes : Vector Lane 8) :
    { (bodies.foldl State.append s) with lanes := lanes } = bodies.foldl State.append { s with lanes := lanes } := by
  obtain ⟨-, hpasses, hclock⟩ := State.foldl_append_frame bodies s
  refine (State.foldl_append_with bodies s lanes s.passes s.clock rfl rfl rfl).symm ▸ ?_
  rw [← hpasses, ← hclock]

/-! ## The grant of one lane -/

/-- The counters of a grant's end at DAY_CLOSE (R95). -/
def Lane.endCounts (x : Lane) : Counts :=
  { x.counts with
    completed := if x.endsCompleted then satInc x.counts.completed else x.counts.completed,
    lapsed := if x.endsLapsed then satInc x.counts.lapsed else x.counts.lapsed }

/-- A lane whose grant, if any, has ended at DAY_CLOSE (R95, R139). -/
def Lane.endGrant (x : Lane) : Lane :=
  { x with
    grant := none, mode := if x.grant.isSome then x.mode.endHold else x.mode,
    timer := if x.grant.isSome = true ∧ x.settings.pace = .free then none else x.timer, counts := x.endCounts }

/-- The passes after the end of a lane's grant. -/
def Lane.endPasses (x : Lane) (ps : List PassRecord) : List PassRecord :=
  ps.map (fun r => if x.grant.any (fun g => g.serial == r.serial) then { r with grantLane := none } else r)

/-- The record of a grant's end. -/
def endRecords (l : Lane.Index) (x : Lane) : List RecordBody :=
  match x.grant with
  | none => []
  | some g => if 1 ≤ g.passages then [.grantClosed g.serial l g.passages] else [.grantLapsed g.serial l]

theorem Lane.vacate_eq_ite (x : Lane) : x.vacate =
    { x with grant := none, timer := if x.settings.pace = .free then none else x.timer } := by
  unfold Lane.vacate
  cases x.settings.pace <;> simp

theorem State.closeGrant_written : (s.written l x ps bodies).closeGrant l =
    s.written l x.endGrant (x.endPasses ps) (bodies ++ endRecords l x) := by
  cases hg : x.grant with
  | none =>
    have hlane : x.endGrant = x := by
      rw [Lane.endGrant, Lane.endCounts]
      simp [Lane.endsCompleted, Lane.endsLapsed, hg]
      rw [← hg]
    have hpasses : x.endPasses ps = ps := by simp [Lane.endPasses, hg]
    have hrecords : endRecords l x = [] := by simp [endRecords, hg]
    simp only [State.closeGrant, State.written_lane, hg, hlane, hpasses, hrecords, List.append_nil]
  | some g =>
    have hpasses : changePass ps g.serial (fun r => { r with grantLane := none }) = x.endPasses ps := by
      simp only [Lane.endPasses, changePass, hg, Option.any_some, beq_iff_eq, eq_comm (a := g.serial)]
    simp only [State.closeGrant, State.written_lane, hg, State.reportEnd]
    by_cases hp : 1 ≤ g.passages
    · have hlapses : ¬g.passages = 0 := by omega
      rw [if_pos hp, State.reportCompleted]
      simp only [State.written_count, State.written_append, State.written_release, State.written_modLane, hpasses,
        Lane.vacate_eq_ite, Lane.endGrant, Lane.endCounts, Lane.endsCompleted, Lane.endsLapsed, endRecords, hg, hp]
      simp [hlapses]
    · have hlapses : g.passages = 0 := by omega
      rw [if_neg hp, State.reportLapsed]
      simp only [State.written_count, State.written_append, State.written_release, State.written_modLane, hpasses,
        Lane.vacate_eq_ite, Lane.endGrant, Lane.endCounts, Lane.endsCompleted, Lane.endsLapsed, endRecords, hg, hp]
      simp [hlapses]

/-! ## The grants of all lanes -/

/-- The end of a lane's grant, without its record. -/
def State.endGrant (s : State) (l : Lane.Index) : State :=
  { s.setLane l (s.lane l).endGrant with passes := (s.lane l).endPasses s.passes }

theorem State.closeGrant_append (s : State) (bodies : List RecordBody) (l : Lane.Index) :
    (bodies.foldl State.append s).closeGrant l =
      (bodies ++ endRecords l (s.lane l)).foldl State.append (s.endGrant l) := by
  have hstart : bodies.foldl State.append s = s.written l (s.lane l) s.passes bodies := by
    have hsame : s.setLane l (s.lane l) = s := State.setLane_lane s l
    rw [State.written, hsame]
  rw [hstart, State.closeGrant_written]
  rfl

theorem State.endGrant_lane_other (s : State) {l k : Lane.Index} (h : k ≠ l) : (s.endGrant l).lane k = s.lane k :=
  State.lane_setLane_other s l k _ h

theorem closeGrants_append (ls : List Lane.Index) (hnodup : ls.Nodup) (s : State) (bodies : List RecordBody) :
    ls.foldl (fun s l => State.closeGrant l s) (bodies.foldl State.append s) =
      (bodies ++ ls.flatMap fun l => endRecords l (s.lane l)).foldl State.append (ls.foldl State.endGrant s) := by
  induction ls generalizing s bodies with
  | nil => simp
  | cons l ls ih =>
    obtain ⟨hl, hls⟩ := List.nodup_cons.1 hnodup
    have hrest : ls.flatMap (fun k => endRecords k ((s.endGrant l).lane k)) =
        ls.flatMap fun k => endRecords k (s.lane k) := List.flatMap_congr fun k hk => by
      rw [State.endGrant_lane_other s (ne_of_mem_of_not_mem hk hl)]
    rw [List.foldl_cons, State.closeGrant_append, ih hls, hrest, List.foldl_cons, List.flatMap_cons, List.append_assoc]

theorem foldl_modLane_setPasses (f : Lane → Lane) (ls : List Lane.Index) (s : State) (ps : List PassRecord) :
    ls.foldl (fun s l => s.modLane l f) { s with passes := ps } =
      { ls.foldl (fun s l => s.modLane l f) s with passes := ps } := by
  induction ls generalizing s with
  | nil => rfl
  | cons l ls ih => exact ih (s.modLane l f)

theorem endGrants_eq (ls : List Lane.Index) (hnodup : ls.Nodup) (s : State) : ls.foldl State.endGrant s =
    { ls.foldl (fun s l => s.modLane l Lane.endGrant) s with
      passes := s.passes.map fun r =>
        if ls.any fun l => (s.lane l).grant.any fun g => g.serial == r.serial then { r with grantLane := none } else r } := by
  induction ls generalizing s with
  | nil =>
    simp only [List.foldl_nil, List.any_nil, Bool.false_eq_true, if_false, List.map_id']
  | cons l ls ih =>
    obtain ⟨hl, hls⟩ := List.nodup_cons.1 hnodup
    have hrest (r : PassRecord) : (ls.any fun k => ((s.endGrant l).lane k).grant.any fun g => g.serial == r.serial) =
        ls.any fun k => (s.lane k).grant.any fun g => g.serial == r.serial := by
      rw [Bool.eq_iff_iff, List.any_eq_true, List.any_eq_true]
      refine exists_congr fun k => and_congr_right fun hk => ?_
      rw [State.endGrant_lane_other s (ne_of_mem_of_not_mem hk hl)]
    have hpasses : (s.endGrant l).passes = (s.lane l).endPasses s.passes := rfl
    rw [List.foldl_cons, List.foldl_cons, ih hls, hpasses]
    simp only [hrest, Lane.endPasses, List.map_map]
    have hstate : ls.foldl (fun s l => s.modLane l Lane.endGrant) (s.endGrant l) =
        { ls.foldl (fun s l => s.modLane l Lane.endGrant) (s.modLane l Lane.endGrant) with
          passes := (s.lane l).endPasses s.passes } := foldl_modLane_setPasses Lane.endGrant ls (s.modLane l Lane.endGrant) _
    rw [hstate]
    have hmap : (fun r : PassRecord => if (ls.any fun k => (s.lane k).grant.any fun g => g.serial == r.serial) = true then
          { r with grantLane := none } else r) ∘
        (fun r => if ((s.lane l).grant.any fun g => g.serial == r.serial) = true then { r with grantLane := none } else r) =
        fun r => if ((l :: ls).any fun k => (s.lane k).grant.any fun g => g.serial == r.serial) = true then
          { r with grantLane := none } else r := by
      funext r
      rw [Function.comp_apply, List.any_cons]
      cases (s.lane l).grant.any fun g => g.serial == r.serial <;>
        cases hr : ls.any fun k => (s.lane k).grant.any fun g => g.serial == r.serial <;> simp [hr]
    rw [hmap]

/-- The ends of all grants at DAY_CLOSE (R95, R139). -/
theorem State.closeGrants_eq (s : State) : s.eachLane State.closeGrant =
    (allLanes.flatMap fun l => endRecords l (s.lane l)).foldl State.append { s with
      lanes := s.lanes.map Lane.endGrant,
      passes := s.passes.map fun r =>
        if s.lanes.toList.any fun x => x.grant.any fun g => g.serial == r.serial then { r with grantLane := none }
        else r } := by
  have hlanes := State.eachLane_modLane s Lane.endGrant
  have hall := closeGrants_append allLanes allLanes_nodup s []
  rw [endGrants_eq allLanes allLanes_nodup] at hall
  rw [State.eachLane] at hlanes
  rw [hlanes] at hall
  simp only [State.lanes_toList, List.any_map, Function.comp_def]
  exact hall

/-! ## The lanes closed -/

/-- A lane after DAY_CLOSE (R95, R139). -/
def Lane.closed (x : Lane) : Lane := x.endGrant.dayClose.governed

theorem closeLanes_eq (bodies : List RecordBody) (s : State) (h : ∀ l, (s.lane l).grant = none) :
    State.closeLanes (bodies.foldl State.append s) =
      bodies.foldl State.append { s with lanes := (s.lanes.map Lane.dayClose).map Lane.governed } := by
  obtain ⟨hlanes, -, -⟩ := State.foldl_append_frame bodies s
  have hclosed : ({ (bodies.foldl State.append s) with lanes := mapLanes Lane.dayClose (bodies.foldl State.append s).lanes } : State) =
      bodies.foldl State.append { s with lanes := s.lanes.map Lane.dayClose } := by
    rw [mapLanes_eq, hlanes, State.foldl_append_setLanes]
  have hderive : State.eachLane (bodies.foldl State.append { s with lanes := s.lanes.map Lane.dayClose })
      (fun l s => s.derive l) =
        State.eachLane (bodies.foldl State.append { s with lanes := s.lanes.map Lane.dayClose })
          (fun l s => s.modLane l Lane.governed) := by
    refine eachLane_congr (fun l v => (LocalTo.refl l v).modLane _) fun l v hv => ?_
    have hnone : (v.lane l).grant = none := by
      rw [hv, State.foldl_append_lane]
      have hl := State.lane_mapLanes s Lane.dayClose l
      rw [mapLanes_eq] at hl
      rw [hl]
      exact h l
    change v.derive l = v.modLane l Lane.governed
    rw [State.derive_eq, Lane.derive_of_none hnone]
    rfl
  rw [State.closeLanes, hclosed, hderive, State.eachLane_modLane, State.foldl_append_setLanes,
    (State.foldl_append_frame bodies _).1]

theorem Lane.closed_eq (h : x.mode = .holdPending → x.grant.isSome = true) : x.closed = { x with
    grant := none, waiting := none,
    mode := (match x.mode with | .auto => .auto | .disabled => .disabled | _ => .held .closeArm),
    gate := x.gateAfter .closeArm,
    timer := (if x.grant.isSome = true ∧ x.settings.pace = .free then none else x.timer), counts := x.endCounts } := by
  have hmode : x.endGrant.dayClose.mode =
      match x.mode with | .auto => .auto | .disabled => .disabled | _ => .held .closeArm := by
    simp only [Lane.dayClose, Lane.endGrant]
    cases hm : x.mode with
    | auto => cases x.grant <;> rfl
    | disabled => cases x.grant <;> rfl
    | held c => cases x.grant <;> rfl
    | holdPending =>
      rw [if_pos (h hm)]
      rfl
  have hcommand : (x.endGrant.dayClose.mode.heldCommand.getD .closeArm) = .closeArm := by
    rw [hmode]
    cases x.mode <;> rfl
  rw [Lane.closed, Lane.governed, hcommand]
  have hlane : x.endGrant.dayClose = { x.endGrant with waiting := none, mode := x.endGrant.dayClose.mode } := rfl
  rw [hlane, hmode]
  rfl

theorem closed_summary (x : Lane) : x.closed.counts = x.endCounts := rfl

/-- Rows added one after another are the sums of their columns. -/
theorem foldl_add_eq (rows : List SummaryRow) (a : SummaryRow) : rows.foldl SummaryRow.add a =
    { grants := a.grants + (rows.map SummaryRow.grants).sum,
      completed := a.completed + (rows.map SummaryRow.completed).sum,
      lapsed := a.lapsed + (rows.map SummaryRow.lapsed).sum, riders := a.riders + (rows.map SummaryRow.riders).sum,
      intrusions := a.intrusions + (rows.map SummaryRow.intrusions).sum } := by
  induction rows generalizing a with
  | nil => rfl
  | cons r rows ih =>
    rw [List.foldl_cons, ih]
    simp only [SummaryRow.add, List.map_cons, List.sum_cons, Nat.add_assoc]

/-- A DAY_SUMMARY by its rows (R140). -/
def summaryOf (d : Nat) (rows : List SummaryRow) : RecordBody :=
  .daySummary d rows
    { grants := (rows.map SummaryRow.grants).sum, completed := (rows.map SummaryRow.completed).sum,
      lapsed := (rows.map SummaryRow.lapsed).sum, riders := (rows.map SummaryRow.riders).sum,
      intrusions := (rows.map SummaryRow.intrusions).sum }

theorem daySummary_eq (s : State) (d : Nat) :
    s.daySummary d = summaryOf d (s.lanes.toList.map fun x => x.counts.summary) := by
  simp only [State.daySummary, foldl_add_eq, Nat.zero_add, State.lanes_toList, List.map_map]
  rfl

/-- The lanes that a DAY_CLOSE leaves HELD after their grants. -/
def holdingLanes (s : State) : List Lane.Index :=
  allLanes.filter fun l => (s.lane l).mode == .holdPending && (s.lane l).grant.isSome

/-- The day state after a DAY_CLOSE. -/
def State.dated (s : State) (d : Nat) : State := { s with clock := { s.clock with dayState := .dayClosed d } }

theorem State.foldl_append_dated (bodies : List RecordBody) {d : Nat} (hd : s.clock.dayState = .dayOpen d) :
    State.dated (bodies.foldl State.append s) d = bodies.foldl State.append (s.dated d) := by
  rw [State.dated, (State.foldl_append_frame bodies s).2.2]
  exact State.foldl_append_setClock bodies s { s.clock with dayState := .dayClosed d } (by rw [hd]; rfl) rfl rfl

theorem State.closeDay_written (s : State) {d : Nat} (hd : s.clock.dayState = .dayOpen d) :
    let u : State := { s with
      lanes := s.lanes.map Lane.closed, clock := { s.clock with dayState := .dayClosed d },
      passes := s.passes.map fun r =>
        if s.lanes.toList.any fun x => x.grant.any fun g => g.serial == r.serial then { r with grantLane := none }
        else r }
    s.closeDay d = (((allLanes.flatMap fun l => endRecords l (s.lane l)) ++
      (holdingLanes s).map fun l => RecordBody.laneEvent l .holdEntered) ++ [u.daySummary d]).foldl State.append u := by
  intro u
  have hclose : s.closeDay d =
      (let t := State.closeLanes
        ((holdingLanes s).foldl (fun s l => s.append (.laneEvent l .holdEntered)) (s.eachLane State.closeGrant))
      (t.dated d).append ((t.dated d).daySummary d)) := rfl
  have hheld (t : State) : (holdingLanes s).foldl (fun s l => s.append (.laneEvent l .holdEntered)) t =
      ((holdingLanes s).map fun l => RecordBody.laneEvent l .holdEntered).foldl State.append t := by
    rw [List.foldl_map]
  have hclosed := closeLanes_eq ((allLanes.flatMap fun l => endRecords l (s.lane l)) ++
    (holdingLanes s).map fun l => RecordBody.laneEvent l .holdEntered) { s with
      lanes := s.lanes.map Lane.endGrant,
      passes := s.passes.map fun r =>
        if s.lanes.toList.any fun x => x.grant.any fun g => g.serial == r.serial then { r with grantLane := none }
        else r } fun l => by
    have hl := State.lane_mapLanes s Lane.endGrant l
    rw [mapLanes_eq] at hl
    exact congrArg Lane.grant hl
  have hlanes : ((s.lanes.map Lane.endGrant).map Lane.dayClose).map Lane.governed = s.lanes.map Lane.closed := by
    rw [Vector.map_map, Vector.map_map]
    rfl
  rw [hclose, State.closeGrants_eq, hheld, ← List.foldl_append, hclosed, hlanes]
  generalize hbodies : (allLanes.flatMap fun l => endRecords l (s.lane l)) ++
    (holdingLanes s).map (fun l => RecordBody.laneEvent l .holdEntered) = bodies
  have hsummary : (bodies.foldl State.append u).daySummary d = u.daySummary d := by
    rw [daySummary_eq, daySummary_eq, (State.foldl_append_frame bodies u).1]
  have hdated : State.dated (bodies.foldl State.append { s with
      lanes := s.lanes.map Lane.closed,
      passes := s.passes.map fun r =>
        if s.lanes.toList.any fun x => x.grant.any fun g => g.serial == r.serial then { r with grantLane := none }
        else r }) d = bodies.foldl State.append u := State.foldl_append_dated bodies hd
  simp only []
  rw [hdated, hsummary, List.foldl_append]
  rfl

/-- Settles O34: every lane closed, and the records in their order. -/
theorem dayCloses : Obligations.DayCloses := by
  refine fun s h => ⟨fun hd => answers_of_serve rfl h ?_, fun d hd hholding => ?_⟩
  · cases hs : s.clock.dayState with
    | dayOpen d => exact absurd hs (hd d)
    | noDay => simp only [serveDayClose, hs, Served.refuse]
    | opening => simp only [serveDayClose, hs, Served.refuse]
    | dayClosed => simp only [serveDayClose, hs, Served.refuse]
  · intro completes lapses closed row rows ends records
    have hclosed (l : Lane.Index) : (s.lane l).closed = closed (s.lane l) := Lane.closed_eq (hholding l)
    have hlanes : s.lanes.map Lane.closed = s.lanes.map closed := lanes_ext fun l => by
      simp only [Fin.getElem_fin, Vector.getElem_map]
      exact hclosed l
    have hholdingLanes : holdingLanes s = allLanes.filter fun l => (s.lane l).mode == .holdPending :=
      List.filter_congr fun l _ => by
        cases hm : (s.lane l).mode == .holdPending with
        | false => rfl
        | true => rw [Bool.true_and, hholding l (by simpa using hm)]
    have hstate := State.closeDay_written s hd
    simp only [daySummary_eq, hlanes, hholdingLanes] at hstate
    have hcompletes : allLanes.countP (fun l => (s.lane l).endsCompleted) = s.lanes.toList.countP completes := by
      rw [State.lanes_toList, List.countP_map]
      rfl
    have hlapses : allLanes.countP (fun l => (s.lane l).endsLapsed) = s.lanes.toList.countP lapses := by
      rw [State.lanes_toList, List.countP_map]
      rfl
    have hrows : (s.lanes.map closed).toList.map (fun x => x.counts.summary) = rows := by
      rw [Vector.toList_map, List.map_map]
      rfl
    rw [hrows] at hstate
    refine answers_of_serve rfl h ?_
    simp only [serveDayClose, hd, hcompletes, hlapses]
    refine congrArg₂ (fun u results => Served.answered u .ok results) hstate ?_
    rw [fields_cons, fields_cons, fields_cons, fields_nil, List.append_nil, List.append_assoc]

end Sys2Proof.Machine

/-! Refunds: the classes, the entitlement and its allocation (R149 to R154), the bounds (R157), and the two requests
(R144 to R148). -/

namespace Sys2Proof.Machine

open Sys2Proof.Safety

variable {s t : State} {l : Lane.Index} {r : PassRecord} {p : Product}

/-! ## The unused days by class (R150, R151) -/

theorem classify_closed (st : DayStatus) (b : Bool) : (classify st b == .closed) = (st == .isClosed) := by
  cases st <;> cases b <;> rfl

theorem classify_partial (st : DayStatus) (b : Bool) : (classify st b == .partialDay) = (st == .isPartial && b) := by
  cases st <;> cases b <;> rfl

theorem classify_future (st : DayStatus) (b : Bool) : (classify st b == .future) = (st != .isClosed && !b) := by
  cases st <;> cases b <;> rfl

theorem unusedDays_eq (r : PassRecord) : r.unusedDays =
    ((List.range r.window).filter fun i => decide (r.firstDay + i ∉ r.usedDays)).map (r.firstDay + ·) := by
  rw [PassRecord.unusedDays, List.filter_map]
  congr 2
  funext i
  simp

/-! ## The computation, stage by stage -/

section computed

variable (r : PassRecord) (p : Product) (days : Memory) (t : Nat)

theorem computeRefund_counts :
    let unused := (List.range r.window).filter (fun i => decide (r.firstDay + i ∉ r.usedDays))
    let status (i : Nat) := dayStatus days (r.firstDay + i)
    (computeRefund r p days t).closed = unused.countP (fun i => status i == .isClosed) ∧
    (computeRefund r p days t).partialDays =
      unused.countP (fun i => status i == .isPartial && decide (r.firstDay + i < t)) ∧
    (computeRefund r p days t).future = unused.countP (fun i => status i != .isClosed && decide (t ≤ r.firstDay + i)) := by
  simp only [computeRefund, unusedDays_eq, List.countP_map, Function.comp_def, classify_closed, classify_partial,
    classify_future]
  refine ⟨trivial, trivial, ?_⟩
  congr 1
  funext i
  rw [← decide_not, decide_eq_decide.2 Nat.not_lt]

theorem min_allocation (e a b c : Nat) : min e a + min (e - min e a) b + min (e - min e a - min (e - min e a) b) c =
    min e (a + b + c) := by omega

end computed

/-- Settles O36: the stages of the computation. -/
theorem refundIsAllocatedInOrder : Obligations.RefundIsAllocatedInOrder := by
  intro r p days t b unused status
  obtain ⟨hclosed, hpartial, hfuture⟩ := computeRefund_counts r p days t
  refine ⟨rfl, rfl, rfl, fun v hv => ?_, fun hnone => ?_, fun hw => ?_, hclosed, hpartial, hfuture, ?_, rfl, rfl, rfl,
    min_allocation _ _ _ _, rfl, rfl⟩
  · exact ⟨by change priceBasis r p = v; rw [priceBasis, hv]; rfl, by change r.pricePaid.isSome = true; rw [hv]; rfl⟩
  · exact ⟨by change priceBasis r p = p.price; rw [priceBasis, hnone]; rfl,
      by change r.pricePaid.isSome = false; rw [hnone]; rfl⟩
  · change clampTo 1 r.window p.allowed = _
    rw [clampTo_one hw]
    split_ifs <;> omega
  · change b.allowed - b.used = _
    split <;> omega

/-! ## The bounds (R154, R157) -/

theorem lookupProduct_bounds {m : Memory} {code : Nat} (h : lookupProduct m code = some p) (hc : p.cls ≠ .season) :
    p.allowed ≤ 14 ∧ p.partialRate ≤ 100 ∧ p.futureRate ≤ 100 := by
  unfold lookupProduct at h
  split at h
  · cases h
  · split at h
    · cases h
    · rename_i c hclass
      cases h
      have hwindow : windowAsUsed c (productField m code 2 1) = clampTo 1 14 (productField m code 2 1) := by
        cases c
        · rfl
        · rfl
        · exact absurd rfl hc
      simp only [hwindow, clampTo]
      omega

theorem allocation_le (e a b c : Nat) (f g : Nat) (hf : f ≤ 100) (hg : g ≤ 100) :
    100 * min e a + f * min (e - min e a) b + g * min (e - min e a - min (e - min e a) b) c ≤ 100 * e := by
  have hpartial := Nat.mul_le_mul_right (min (e - min e a) b) hf
  have hfuture := Nat.mul_le_mul_right (min (e - min e a - min (e - min e a) b) c) hg
  omega

/-- Settles O38: the refund under the gross, and the gross under the price. -/
theorem refundsAreBounded : Obligations.RefundsAreBounded := by
  intro r p m days t code hp hclass hw b
  obtain ⟨hallowed, hpartial, hfuture⟩ := lookupProduct_bounds hp hclass
  have hrefund : b.refund = if p.minimum ≤ b.rounded then b.rounded else 0 := rfl
  have ha : 1 ≤ b.allowed ∧ b.allowed ≤ 14 ∧ b.allowed ≤ r.window := by
    change 1 ≤ clampTo 1 r.window p.allowed ∧ clampTo 1 r.window p.allowed ≤ 14 ∧
      clampTo 1 r.window p.allowed ≤ r.window
    simp only [clampTo]
    omega
  obtain ⟨ha1, ha14, haw⟩ := ha
  have hweight : b.weight ≤ 100 * b.allowed :=
    calc b.weight ≤ 100 * b.entitlement := allocation_le _ _ _ _ _ _ hpartial hfuture
      _ ≤ 100 * b.allowed := Nat.mul_le_mul_left _ (Nat.sub_le _ _)
  have hgross : b.gross ≤ b.price := by
    change b.price * b.weight / (100 * b.allowed) ≤ b.price
    refine Nat.div_le_of_le_mul ?_
    rw [Nat.mul_comm (100 * b.allowed)]
    exact Nat.mul_le_mul_left _ hweight
  have hrounded : b.rounded ≤ b.gross :=
    calc b.rounded ≤ b.afterFee := Nat.div_mul_le_self _ _
      _ ≤ b.gross := Nat.sub_le _ _
  have hstep : p.step ∣ b.rounded := Nat.dvd_mul_left _ _
  refine ⟨hrefund, ha1, ha14, haw, hweight, hgross, ?_, fun hpaid => ?_⟩
  · rw [hrefund]
    split
    · exact hrounded
    · exact Nat.zero_le _
  · rw [hrefund] at hpaid ⊢
    split at hpaid
    · rename_i hminimum
      rw [if_pos hminimum]
      exact ⟨hstep, hminimum⟩
    · omega

/-! ## The requests -/

theorem breakdownBytes_eq (b : Breakdown) : b.bytes = fields (
    [(1, b.referenceDay), (3, b.price), (1, oneBit b.fromRecord), (1, b.window), (1, b.allowed), (1, b.used),
      (1, b.closed), (1, b.partialDays), (1, b.future), (1, b.entitlement), (1, b.creditClosed), (1, b.creditPartial),
      (1, b.creditFuture), (2, b.weight), (3, b.gross), (3, b.afterFee), (3, b.rounded), (3, b.refund)] ++
    optRows 1 (b.grantLane.map (fun l => [(1, laneNumber l)]))) := by
  have hlane : optItem 1 b.grantLane (fun l => item 1 (laneNumber l)) =
      fields (optRows 1 (b.grantLane.map fun l => [(1, laneNumber l)])) :=
    optItem_eq 1 _ _ _ fun l => by simp [fields_cons, fields_nil]
  simp only [Breakdown.bytes, hlane, flag_eq, fields_append, fields_cons, fields_nil, List.append_assoc, List.append_nil]

theorem refundQuote_answers {s4 s3 s2 s1 s0 : Byte} (h : s.takes 80#8 = some [s4, s3, s2, s1, s0]) :
    match s.assess false (ofBe [s4, s3, s2, s1, s0]) with
    | .refused result results => Answers .refundQuote s s result results
    | .computed _ b => Answers .refundQuote s s .ok b.bytes := by
  cases ha : s.assess false (ofBe [s4, s3, s2, s1, s0]) <;> exact answers_of_serve rfl h (by simp only [serveRefundQuote, ha])

theorem refundCommit_answers {s4 s3 s2 s1 s0 : Byte} (h : s.takes 81#8 = some [s4, s3, s2, s1, s0]) :
    match s.assess true (ofBe [s4, s3, s2, s1, s0]) with
    | .refused result results => Answers .refundCommit s s result results
    | .computed r b =>
      (b.refund = 0 → Answers .refundCommit s s .nothingToRefund b.bytes) ∧
        (1 ≤ b.refund → Answers .refundCommit s (s.commitRefund r.serial b) .ok b.bytes) := by
  cases ha : s.assess true (ofBe [s4, s3, s2, s1, s0]) with
  | refused result results => exact answers_of_serve rfl h (by simp only [serveRefundCommit, ha])
  | computed r b =>
    refine ⟨fun hb => answers_of_serve rfl h ?_, fun hb => answers_of_serve rfl h ?_⟩
    · simp only [serveRefundCommit, ha]
      rw [if_pos hb]
    · simp only [serveRefundCommit, ha]
      rw [if_neg (by omega)]

theorem assess_found {serial : Nat} {commit : Bool} (hr : s.lookupPass serial = some r)
    (hp : lookupProduct s.products.active r.product = some p) (hrefundable : p.refundable = true)
    (hclass : p.cls ≠ .season) : s.assess commit serial =
      match r.refund, (if commit then r.grantLane else none), s.clock.dayState.referenceDay with
      | some f, _, _ => .refused .alreadyRefunded (item 3 f.amount ++ item 1 f.referenceDay)
      | none, some l, _ => .refused .passInGrant (item 1 (laneNumber l))
      | none, none, none => .refused .dayNotSet []
      | none, none, some t => .computed r (computeRefund r p s.days.active t) := by
  simp only [State.assess, hr, hp]
  exact if_neg (by simp [hrefundable, hclass])

/-- Settles O39: the refusals in their order, the quote and the commit. -/
theorem refundRequestsAnswered : Obligations.RefundRequestsAnswered := by
  intro s s4 s3 s2 s1 s0 serial quoted committed refused shown
  have hquote {result : Result} {results : List Byte} (h : s.assess false serial = .refused result results) (hq : quoted) :
      Answers .refundQuote s s result results := by
    have := refundQuote_answers hq
    rwa [h] at this
  have hcommit {result : Result} {results : List Byte} (h : s.assess true serial = .refused result results)
      (hc : committed) : Answers .refundCommit s s result results := by
    have := refundCommit_answers hc
    rwa [h] at this
  have hrefused {result : Result} {results : List Byte} (h : ∀ c, s.assess c serial = .refused result results) :
      refused result results := ⟨hquote (h false), hcommit (h true)⟩
  refine ⟨fun hnone => hrefused fun c => ?_, fun r hserial hfound => ?_⟩
  · simp only [State.assess, lookupPass_none hnone]
  have hr : s.lookupPass serial = some r := (lookupPass_eq_findPass hserial).trans hfound
  refine ⟨fun hnone => hrefused fun c => ?_, fun p hp => ⟨fun hno => hrefused fun c => ?_, fun hrefundable hclass => ?_⟩⟩
  · simp only [State.assess, hr, hnone]
  · have hcode : item 1 p.cls.code = be 1 p.cls.code := item_of_lt (by cases p.cls <;> simp [ProductClass.code])
    simp only [State.assess, hr, hp]
    rw [if_pos hno, hcode]
  have hassess (c : Bool) := assess_found (commit := c) hr hp hrefundable hclass
  refine ⟨fun f hf => hrefused fun c => ?_, fun hf => ⟨fun l hl => hcommit ?_, fun hday => ⟨hquote ?_, fun hc hl => ?_⟩,
    fun d t hday => ?_⟩⟩
  · rw [hassess, hf]
  · have hlane : item 1 (laneNumber l) = be 1 (laneNumber l) := item_of_lt (by have := l.isLt; simp only [laneNumber]; omega)
    rw [hassess, hf, hl, ← hlane]
    cases s.clock.dayState.referenceDay <;> rfl
  · rw [hassess, hf, hday]
    rfl
  · refine hcommit ?_ hc
    rw [hassess, hf, hday, hl]
    rfl
  have href : s.clock.dayState.referenceDay = some t := by
    rcases hday with ⟨hs, ht⟩ | ⟨hs, ht⟩ <;> rw [hs, ht] <;> rfl
  have hshown : (computeRefund r p s.days.active t).bytes = shown (computeRefund r p s.days.active t) r :=
    breakdownBytes_eq _
  intro b
  refine ⟨fun hq => ?_, fun hc hl => ?_⟩
  · have hcomputed : s.assess false serial = .computed r b := by
      rw [hassess, hf, href]
      rfl
    have hanswer := refundQuote_answers hq
    rw [hcomputed] at hanswer
    exact hshown ▸ hanswer
  · have hcomputed : s.assess true serial = .computed r b := by
      rw [hassess, hf, href, hl]
      rfl
    have hanswer := refundCommit_answers hc
    rw [hcomputed] at hanswer
    rw [← hshown]
    have hserialOf : r.serial = serial := serial_of_findPass hfound
    refine ⟨hanswer.1, fun hpaid => ?_⟩
    have hpay := hanswer.2 hpaid
    rw [hserialOf] at hpay
    exact hpay

end Sys2Proof.Machine

/-! The report queue: appends, batches, its settings and its dwell timer (R178 to R184). -/

namespace Sys2Proof.Machine

open Sys2Proof.Safety

variable {s t : State} {l : Lane.Index}

/-! ## Appends -/

theorem State.raise_eq (s : State) (f : CauseSet → CauseSet) : s.raise f = { s with trunk := { s.trunk with
    causes := f s.trunk.causes,
    attention := if s.trunk.attention = .quiet then .pending else s.trunk.attention } } := by
  unfold State.raise
  cases s.trunk.attention <;> rfl

/-- Settles O40: below the backlog mark, at it, and at the capacity. -/
theorem recordsAppended : Obligations.RecordsAppended := by
  intro s body q r joined raised
  have hroom : q.records.length < Config.reportCapacity ↔ q.records.length < 256 := Iff.rfl
  have hmark : q.records.length + 1 = Config.backlogMark ↔ q.records.length = 191 := by
    change q.records.length + 1 = 192 ↔ _
    omega
  refine ⟨fun hlt hne => ?_, fun h => ?_, fun h => ?_⟩
  · rw [State.append]
    exact (if_pos (hroom.2 hlt)).trans (if_neg fun hm => hne (hmark.1 hm))
  · rw [State.append]
    refine (if_pos (hroom.2 (by omega))).trans ((if_pos (hmark.2 h)).trans ?_)
    exact State.raise_eq _ _
  · rw [State.append]
    refine (if_neg fun hm => by have := hroom.1 hm; omega).trans ?_
    exact State.raise_eq _ _

/-! ## Batches -/

/-- The number taken is the largest that the two limits let pass (R182). -/
theorem batchSize_spec (room space : Nat) (rs : List UsageRecord) :
    batchSize room space rs ≤ room ∧ batchSize room space rs ≤ rs.length ∧
      ((rs.take (batchSize room space rs)).flatMap UsageRecord.bytes).length ≤ space ∧
      (batchSize room space rs < room → batchSize room space rs < rs.length →
        space < ((rs.take (batchSize room space rs + 1)).flatMap UsageRecord.bytes).length) := by
  induction room, space, rs using batchSize.induct with
  | case1 => simp [batchSize]
  | case2 => simp [batchSize]
  | case3 room space r rs hfits ih =>
    obtain ⟨hroom, hlength, hspace, hmax⟩ := ih
    have hsize : batchSize (room + 1) space (r :: rs) = batchSize room (space - r.bytes.length) rs + 1 := by
      rw [batchSize, if_pos hfits, Nat.add_comm]
    rw [hsize]
    simp only [List.take_succ_cons, List.flatMap_cons, List.length_append, List.length_cons]
    refine ⟨by omega, by omega, by omega, fun h1 h2 => ?_⟩
    have := hmax (by omega) (by omega)
    omega
  | case4 room space r rs hfits =>
    have hsize : batchSize (room + 1) space (r :: rs) = 0 := by rw [batchSize, if_neg hfits]
    rw [hsize]
    simp
    omega

/-- Settles O41: the number taken, and the state that the batch leaves. -/
theorem batchesTakeTheOldest : Obligations.BatchesTakeTheOldest := by
  intro s
  obtain ⟨hroom, hlength, hspace, hmax⟩ := batchSize_spec 32 1019 s.reports.records
  refine ⟨batchSize 32 1019 s.reports.records, hroom, hlength, .inr ?_, fun h1 h2 => ?_, ?_⟩
  · change 5 + _ ≤ 1024
    omega
  · have := hmax h1 h2
    change 1024 < 5 + _
    omega
  · have hcount : item 1 (batchSize 32 1019 s.reports.records) = be 1 (batchSize 32 1019 s.reports.records) :=
      item_of_lt (by omega)
    rw [← hcount, ← List.length_drop]
    rfl

/-! ## REPORT_CONFIG and the dwell timer -/

theorem triggerTaken_eq (v : Nat) : triggerTaken v =
    if v < 4 then 1 else if v < 8 then 4 else if v < 16 then 8 else if v < 32 then 16 else 32 := by
  unfold triggerTaken
  split_ifs <;> omega

theorem dwellExpired_eq (q : ReportQueue) : q.dwellExpired =
    { q with dwell := none, dwellMark := if q.records = [] then q.dwellMark else true } := by
  rw [ReportQueue.dwellExpired]
  cases hq : q.records <;> simp

/-- Settles O42: the settings taken, and the dwell timer run out. -/
theorem reportSettingsAndDwell : Obligations.ReportSettingsAndDwell := by
  refine fun s => ⟨fun presence r1 r0 d1 d0 h => answers_of_serve rfl h ?_, fun k hk => ?_⟩
  · rw [serveReportConfig]
    simp only [ReportQueue.configured, ReportQueue.configItem, ofBe_two, triggerTaken_eq, flag]
    rfl
  · intro u
    rw [← dwellExpired_eq]
    change Host.Outcome.next _ = _
    simp only [hk]
    rfl

end Sys2Proof.Machine

/-! The lane bus: rounds (R40, R41), and replies judged by their lane (R42, R45, R188). -/

namespace Sys2Proof.Machine

open Sys2Proof.Safety

variable {s t u : State} {l k : Lane.Index} {x : Lane}

/-! ## Rounds -/

/-- A head that a round polls (R40). -/
abbrev Lane.Due (x : Lane) : Prop := x.mode ≠ .disabled ∧ (x.reader.state = .online ∨ x.reader.offlineSkip = 0)

/-- A lane passed by in a round (R40). -/
def Lane.passedBy (x : Lane) : Lane :=
  if x.mode = .disabled then x else { x with reader := { x.reader with offlineSkip := x.reader.offlineSkip - 1 } }

theorem visit_passedBy (h : ¬(u.lane l).Due) (rest : List Lane.Index) :
    State.visit (l :: rest) u = State.visit rest (u.modLane l Lane.passedBy) := by
  by_cases hm : (u.lane l).mode = .disabled
  · have hkeep : u.modLane l Lane.passedBy = u := by
      have hlane : (u.lane l).passedBy = u.lane l := if_pos hm
      rw [State.modLane_eq, hlane, State.setLane_lane]
    rw [State.visit, if_pos hm, hkeep]
  · have hhead : ¬((u.lane l).reader.state = .online ∨ (u.lane l).reader.offlineSkip = 0) := fun hd => h ⟨hm, hd⟩
    have hlane : (u.lane l).passedBy =
        { u.lane l with reader := { (u.lane l).reader with offlineSkip := (u.lane l).reader.offlineSkip - 1 } } := if_neg hm
    rw [State.visit, if_neg hm, if_neg hhead, State.modLane_eq, State.modLane_eq, hlane]

theorem visit_append (before rest : List Lane.Index) (hnodup : before.Nodup) (h : ∀ k ∈ before, ¬(u.lane k).Due) :
    State.visit (before ++ rest) u = State.visit rest (before.foldl (fun s l => s.modLane l Lane.passedBy) u) := by
  induction before generalizing u with
  | nil => rfl
  | cons l before ih =>
    obtain ⟨hl, hbefore⟩ := List.nodup_cons.1 hnodup
    rw [List.cons_append, visit_passedBy (h l List.mem_cons_self), List.foldl_cons]
    refine ih hbefore fun k hk => ?_
    rw [State.lane_modLane_other _ _ _ _ (ne_of_mem_of_not_mem hk hl)]
    exact h k (List.mem_cons_of_mem _ hk)

theorem visit_due (h : (u.lane l).Due) (rest : List Lane.Index) : State.visit (l :: rest) u = u.sendPoll l := by
  rw [State.visit, if_neg h.1, if_pos h.2]

/-- Settles O43: the beginning of a round, the first head due, and a round without one. -/
theorem roundsPollTheHeads : Obligations.RoundsPollTheHeads := by
  refine ⟨fun s hpoll => ⟨_, rfl, ?_⟩, fun u before after l hnodup hbefore hdue => ⟨_, rfl, ?_⟩,
    fun u visited hnodup hnone => ⟨_, rfl, ?_⟩⟩
  · have htime : (s.bus.sinceRound.map (Config.roundTime - ·)).getD 0 =
        match s.bus.sinceRound with | none => 0 | some ms => 10 - ms := by cases s.bus.sinceRound <;> rfl
    change Host.Outcome.next _ = _
    simp only [hpoll, htime] <;> rfl
  · have hbeforeNodup : before.Nodup := hnodup.of_append_left
    have hl : l ∉ before := fun hmem =>
      (List.nodup_append.1 hnodup).2.2 l hmem l List.mem_cons_self rfl
    have hlanes (k : Lane.Index) : (before.foldl (fun s l => s.modLane l Lane.passedBy) u).lane k =
        if k ∈ before then (u.lane k).passedBy else u.lane k := State.foldl_modLane_lane u _ hbeforeNodup k
    have hlane : (before.foldl (fun s l => s.modLane l Lane.passedBy) u).lane l = u.lane l := by rw [hlanes, if_neg hl]
    obtain ⟨lanes, hframe⟩ : ∃ lanes, before.foldl (fun s l => s.modLane l Lane.passedBy) u = { u with lanes := lanes } :=
      ⟨_, State.foldl_modLane_frame u Lane.passedBy before⟩
    rw [visit_append before _ hbeforeNodup hbefore, visit_due (by rw [hlane]; exact hdue), State.sendPoll, hlane]
    rw [hframe] at hlanes ⊢
    have hkept (k : Lane.Index) := State.lane_modLane_other { u with lanes := lanes } l k fun x =>
      { x with reader := { (u.lane l).reader with carried := (u.lane l).reader.verdict.isSome } }
    refine ⟨rfl, rfl, ?_, fun k hk => ?_, fun k hk hkl => ?_⟩
    · have hpolled := State.lane_modLane_same { u with lanes := lanes } l fun x =>
        { x with reader := { (u.lane l).reader with carried := (u.lane l).reader.verdict.isSome } }
      rw [hlanes, if_neg hl] at hpolled
      exact hpolled
    · have hother := hlanes k
      rw [if_pos hk] at hother
      exact (hkept k (ne_of_mem_of_not_mem hk hl)).trans hother
    · have hother := hlanes k
      rw [if_neg hk] at hother
      exact (hkept k hkl).trans hother
  · have hlanes (k : Lane.Index) : (visited.foldl (fun s l => s.modLane l Lane.passedBy) u).lane k =
        if k ∈ visited then (u.lane k).passedBy else u.lane k := State.foldl_modLane_lane u _ hnodup k
    have hvisit := visit_append visited [] hnodup hnone
    rw [List.append_nil, State.visit] at hvisit
    rw [hvisit]
    exact ⟨State.foldl_modLane_frame u Lane.passedBy visited, fun k hk => by rw [hlanes, if_pos hk]; rfl,
      fun k hk => by rw [hlanes, if_neg hk]⟩

/-! ## Replies -/

/-- A reply with its check is judged by its body (R42). -/
theorem judgeReply_framed (k : Lane.Index) (address kind : Byte) (more : List Byte) :
    judgeReply k (syncByte :: (address :: kind :: more) ++ be 2 (frameCheck (address :: kind :: more)).toNat) =
      if address.toNat = laneNumber k then replyOf kind more else none := by
  generalize hcheck : be 2 (frameCheck (address :: kind :: more)).toNat = check
  have hlength : check.length = 2 := by rw [← hcheck, be_length]
  have hbody : ((address :: kind :: more) ++ check).take (((address :: kind :: more) ++ check).length - 2) =
      address :: kind :: more := by
    rw [List.length_append, hlength, Nat.add_sub_cancel, List.take_left]
  have hrest : ((address :: kind :: more) ++ check).drop (((address :: kind :: more) ++ check).length - 2) = check := by
    rw [List.length_append, hlength, Nat.add_sub_cancel, List.drop_left]
  rw [List.cons_append, judgeReply]
  simp only [hbody, hrest, hcheck]
  rw [if_pos ⟨by simp [hlength], trivial⟩]

theorem laneNumber_inj : laneNumber k = laneNumber l ↔ k = l := by
  simp only [laneNumber, Fin.ext_iff]
  omega

theorem laneByte_toNat (l : Lane.Index) : (BitVec.ofNat 8 (laneNumber l)).toNat = laneNumber l := by
  have := l.isLt
  simp only [BitVec.toNat_ofNat, laneNumber]
  omega

theorem be_one (n : Nat) : be 1 n = [BitVec.ofNat 8 n] := by simp [be]

theorem be_five (v : Nat) : ∃ b4 b3 b2 b1 b0, be 5 v = [b4, b3, b2, b1, b0] := ⟨_, _, _, _, _, rfl⟩

theorem replyOf_credential {c : Credential} (htag : c.tag ≤ 15) (hserial : 1 ≤ c.serial) (hwide : c.serial < 2 ^ 40)
    (hproduct : c.product < 256) (hday : c.firstDay ≤ 207) (hquality : c.quality ≤ 3) :
    replyOf 1#8 (be 1 c.tag ++ be 5 c.serial ++ be 1 c.product ++ be 1 c.firstDay ++ be 1 c.media.code ++
      be 1 c.quality) = some (.credential c) := by
  obtain ⟨b4, b3, b2, b1, b0, hbytes⟩ := be_five c.serial
  have hread : ofBe [b4, b3, b2, b1, b0] = c.serial := by rw [← hbytes, ofBe_be_of_lt (by omega)]
  have hmedia : MediaKind.ofCode (BitVec.ofNat 8 c.media.code) = some c.media := by cases c.media <;> rfl
  have hbyte {n : Nat} (h : n < 256) : (BitVec.ofNat 8 n).toNat = n := by simpa using h
  have hcredential : credentialOf (be 1 c.tag ++ be 5 c.serial ++ be 1 c.product ++ be 1 c.firstDay ++
      be 1 c.media.code ++ be 1 c.quality) = some c := by
    simp only [be_one, hbytes, List.cons_append, List.nil_append, credentialOf, hread, hmedia,
      hbyte (show c.tag < 256 by omega), hbyte hproduct, hbyte (show c.firstDay < 256 by omega),
      hbyte (show c.quality < 256 by omega)]
    rw [if_pos ⟨htag, hserial, hday, hquality⟩]
  rw [replyOf, hcredential]
  rfl

/-- The body of a CREDENTIAL reply after its kind (R188). -/
def credentialBody (c : Credential) : List Byte :=
  be 1 c.tag ++ be 5 c.serial ++ be 1 c.product ++ be 1 c.firstDay ++ be 1 c.media.code ++ be 1 c.quality

theorem credentialReply_eq (l : Lane.Index) (c : Credential) : credentialReply l c =
    syncByte :: (BitVec.ofNat 8 (laneNumber l) :: 1#8 :: credentialBody c) ++
      be 2 (frameCheck (BitVec.ofNat 8 (laneNumber l) :: 1#8 :: credentialBody c)).toNat := by
  have hbody : be 1 (laneNumber l) ++ 1#8 :: be 1 c.tag ++ be 5 c.serial ++ be 1 c.product ++ be 1 c.firstDay ++
      be 1 c.media.code ++ be 1 c.quality = BitVec.ofNat 8 (laneNumber l) :: 1#8 :: credentialBody c := by
    simp only [be_one, credentialBody, List.cons_append, List.nil_append]
  rw [credentialReply]
  simp only [hbody]

theorem idleReply_eq (l : Lane.Index) : idleReply l =
    syncByte :: (BitVec.ofNat 8 (laneNumber l) :: 0#8 :: []) ++
      be 2 (frameCheck (BitVec.ofNat 8 (laneNumber l) :: 0#8 :: [])).toNat := by
  rw [idleReply]
  simp only [be_one, List.cons_append, List.nil_append]

/-- Settles O44: the layout read back by its own lane, and refused by every other. -/
theorem repliesAreJudgedByTheirLane : Obligations.RepliesAreJudgedByTheirLane := by
  intro l k c htag hserial hwide hproduct hday hquality
  have hlane : laneNumber l = laneNumber k ↔ k = l := by rw [eq_comm, laneNumber_inj]
  refine ⟨?_, ?_, ?_, ?_⟩
  · rw [credentialReply_eq, judgeReply_framed, laneByte_toNat, credentialBody,
      replyOf_credential htag hserial hwide hproduct hday hquality]
    simp only [hlane]
  · rw [idleReply_eq, judgeReply_framed, laneByte_toNat]
    simp only [hlane]
    rfl
  · simp only [credentialReply_eq, credentialBody, List.length_append, List.length_cons, be_length]
  · simp only [idleReply_eq, List.length_append, List.length_cons, be_length, List.length_nil]

end Sys2Proof.Machine

/-! The starts (R18, R19, R36, R38, R51, R53, R77, R97, R112, R115, R124, R132, R141, R177, R185): what COLD_START and
WARM_START leave, and the invariants of the state after reset. -/

namespace Sys2Proof.Machine

open Safety

/-- Settles O5. -/
theorem resetMeetsTheInvariants : Obligations.ResetMeetsTheInvariants := by
  have hvouched : BanksVouched State.reset := fun k _ => by
    cases k <;> exact ⟨.inl ⟨rfl, rfl⟩, fun h => absurd h (by decide)⟩
  have hordered : HotListsOrdered State.reset :=
    ⟨fun i _ h => absurd (rfl : hotSerial [] (i + 1) = 0) h, fun h => absurd h (by decide)⟩
  refine ⟨?_, ?_, ?_, ?_, ?_, ?_, ?_, ?_, ?_, ?_, hvouched, hordered, ?_, ?_, ?_, ?_, rfl, rfl, rfl, rfl, rfl, rfl, rfl⟩ <;>
    decide

/-! ## A lane's beams at a start -/

theorem startLoiter_eq_ite (x : Lane) :
    x.startLoiter = if x.mode = .disabled then none else some { elapsed := 0, limit := 1000 * x.settings.loiterTime } := by
  cases h : x.mode <;> simp [Lane.startLoiter, h, Timer.start]

theorem Recognizer.placed_eq_clear (a b : Bool) : Recognizer.placed a b = .clear ↔ (a || b) = false := by
  cases a <;> cases b <;> decide

/-- The loiter timer of beams placed afresh runs while a beam is interrupted, but on no DISABLED lane (R81, R82). -/
theorem Lane.placeBeams_loiterTimer (x : Lane) :
    x.placeBeams.loiterTimer = if x.mode ≠ .disabled ∧ (x.beamA.raw || x.beamB.raw) = true
      then some { elapsed := 0, limit := 1000 * x.settings.loiterTime } else none := by
  have hplaced := Recognizer.placed_eq_clear x.beamA.raw x.beamB.raw
  simp only [Lane.placeBeams, startLoiter_eq_ite]
  by_cases hraw : (x.beamA.raw || x.beamB.raw) = true
  · have hclear : ¬ Recognizer.placed x.beamA.raw x.beamB.raw = .clear := fun h => by simp [hplaced.1 h] at hraw
    by_cases hmode : x.mode = .disabled
    · rw [if_neg hclear, if_pos hmode, if_neg fun h => h.1 hmode]
    · rw [if_neg hclear, if_neg hmode, if_pos ⟨hmode, hraw⟩]
  · rw [if_pos (hplaced.2 (Bool.eq_false_iff.2 hraw)), if_neg fun h => hraw h.2]

/-! ## Cold start -/

/-- The payload of a cold start's ATTENTION (R173, R177). -/
theorem causes_coldStart_bytes : ({ CauseSet.empty with coldStart := true } : CauseSet).bytes = [1#8, 0#8, 0#8] := by
  decide

theorem State.coldStart_banks (s : State) (k : TableId) : s.coldStart.banks k = .reset := by cases k <;> rfl

/-- Settles O3. -/
theorem coldStartForgets : Obligations.ColdStartForgets := by
  intro s
  refine ⟨s.coldStart.beginAttention, congrArg Host.Outcome.next (State.transmit_attention rfl rfl), fun k _ => ?_, rfl, rfl,
    rfl, rfl, rfl, rfl, rfl, rfl, ?_, fun l => ?_⟩
  · exact State.coldStart_banks s k
  · simp [State.beginAttention, State.coldStart, State.reset, Trunk.reset, causes_coldStart_bytes]
  · have hlane : s.coldStart.beginAttention.lane l = (s.lane l).coldStart := coldStart_lane s l
    rw [hlane]
    refine ⟨rfl, rfl, rfl, rfl, rfl, rfl, rfl, rfl, rfl, rfl, ?_, rfl, rfl, rfl, rfl, rfl, rfl, rfl, rfl⟩
    refine (Lane.placeBeams_loiterTimer _).trans ?_
    simp [Lane.reset, Settings.reset]

/-! ## Warm start -/

/-- The payload of a warm start's ATTENTION (R173, R177). -/
theorem causes_warmStart_bytes : ({ CauseSet.empty with warmStart := true } : CauseSet).bytes = [2#8, 0#8, 0#8] := by
  decide

theorem Banks.warmStart_kept {b : Banks} (h : b.shadowState = .verified ∨ b.shadowState = .stale) :
    b.warmStart = b := by
  rcases h with h | h <;> simp [Banks.warmStart, h]

theorem Banks.warmStart_emptied {b : Banks} (h : ¬(b.shadowState = .verified ∨ b.shadowState = .stale)) :
    b.warmStart = { b with shadow := [], shadowSig := none, shadowState := .empty } := by
  cases hs : b.shadowState <;> simp [Banks.warmStart, hs] at h ⊢

theorem State.warmStart_banks (s : State) (k : TableId) : s.warmStart.banks k = (s.banks k).warmStart := by
  cases k <;> rfl

theorem Banks.warmStart_active (b : Banks) : b.warmStart.active = b.active ∧ b.warmStart.activeSig = b.activeSig := by
  by_cases h : b.shadowState = .verified ∨ b.shadowState = .stale
  · rw [Banks.warmStart_kept h]; exact ⟨rfl, rfl⟩
  · rw [Banks.warmStart_emptied h]; exact ⟨rfl, rfl⟩

/-- Settles O4. -/
theorem warmStartKeeps : Obligations.WarmStartKeeps := by
  intro s
  refine ⟨s.warmStart.beginAttention, congrArg Host.Outcome.next (State.transmit_attention rfl rfl), fun k _ => ?_, rfl, rfl,
    rfl, ?_, rfl, rfl, rfl, ?_, rfl, rfl, rfl, ?_, fun l => ?_⟩
  · rw [show s.warmStart.beginAttention.banks k = (s.banks k).warmStart from State.warmStart_banks s k]
    refine ⟨(s.banks k).warmStart_active.1, (s.banks k).warmStart_active.2, Banks.warmStart_kept, fun h => ?_⟩
    rw [Banks.warmStart_emptied h]
    exact ⟨rfl, rfl, rfl⟩
  · show s.pacing.warmStart = _
    cases hsource : s.pacing.source <;> simp [Pacing.warmStart, hsource, Timer.start]
  · show s.clock.dayState.warmStart = _
    cases s.clock.dayState with
    | opening d t former => cases former <;> rfl
    | _ => rfl
  · simp [State.beginAttention, State.warmStart, Trunk.warmStart, Trunk.reset, causes_warmStart_bytes]
  · have hlane : s.warmStart.beginAttention.lane l = (s.lane l).warmStart := warmStart_lane s l
    rw [hlane]
    refine ⟨rfl, rfl, rfl, rfl, rfl, rfl, rfl, rfl, rfl, rfl, ?_, rfl, rfl, rfl, ?_, rfl, rfl, rfl, rfl⟩
    · refine (Lane.placeBeams_loiterTimer _).trans ?_
      cases hmode : (s.lane l).mode <;> simp
    · cases hmode : (s.lane l).mode <;> simp [Lane.warmStart, Lane.placeBeams, hmode]

end Sys2Proof.Machine

/-! Admission's decision (R58 to R68): the checks in the order of R58's table, the first that fails, and the grant. -/

namespace Sys2Proof.Machine

open Safety

/-! ## A list of checks decides -/

/-- The decision that a list of checks brings: a denial with the reason of the first that fails, or else a grant. -/
def Decides (checks : List (DenialReason × Bool)) (d : Decision) : Prop :=
  (∃ reason, d = .deny reason ∧ checks.find? Prod.snd = some (reason, true)) ∨
    (∃ sub p, d = .grant sub p) ∧ ∀ c ∈ checks, c.2 = false

theorem Decides.fails {reason : DenialReason} {b : Bool} {rest : List (DenialReason × Bool)} {d : Decision}
    (hb : b = true) (hd : d = .deny reason) : Decides ((reason, b) :: rest) d :=
  .inl ⟨reason, hd, by simp [hb]⟩

theorem Decides.passes {reason : DenialReason} {b : Bool} {rest : List (DenialReason × Bool)} {d : Decision}
    (hb : b = false) (hd : Decides rest d) : Decides ((reason, b) :: rest) d := by
  rcases hd with ⟨first, hfirst, hfind⟩ | ⟨hgrant, hall⟩
  · exact .inl ⟨first, hfirst, by simp [hb, hfind]⟩
  · exact .inr ⟨hgrant, by simpa [hb] using hall⟩

theorem Decides.granted {d : Decision} {sub : Subject} {p : Product} (hd : d = .grant sub p) : Decides [] d :=
  .inr ⟨⟨sub, p, hd⟩, by simp⟩

/-- A check at the head of the list, tested by the condition `c` under which the decision denies with its reason. -/
theorem Decides.check {reason : DenialReason} {b : Bool} {rest : List (DenialReason × Bool)} {d e : Decision}
    {c : Prop} [Decidable c] (hb : b = true ↔ c) (hd : d = if c then .deny reason else e) (he : ¬c → Decides rest e) :
    Decides ((reason, b) :: rest) d := by
  by_cases hc : c
  · exact .fails (hb.2 hc) (by rw [hd, if_pos hc])
  · exact .passes (Bool.eq_false_iff.2 fun h => hc (hb.1 h)) (by rw [hd, if_neg hc]; exact he hc)

/-- A denial stands exactly for the first check that fails. -/
theorem Decides.deny_iff {checks : List (DenialReason × Bool)} {d : Decision} (h : Decides checks d)
    (reason : DenialReason) : d = .deny reason ↔ (checks.find? Prod.snd).map Prod.fst = some reason := by
  rcases h with ⟨first, hd, hfind⟩ | ⟨⟨sub, p, hd⟩, hall⟩
  · simp [hd, hfind]
  · have hnone : checks.find? Prod.snd = none := List.find?_eq_none.2 fun c hc => by simp [hall c hc]
    simp [hd, hnone]

/-- A grant stands exactly when no check fails. -/
theorem Decides.grant_iff {checks : List (DenialReason × Bool)} {d : Decision} (h : Decides checks d) :
    (∃ sub p, d = .grant sub p) ↔ ∀ c ∈ checks, c.2 = false := by
  rcases h with ⟨first, hd, hfind⟩ | ⟨hgrant, hall⟩
  · have hmem := List.mem_of_find?_eq_some hfind
    exact ⟨fun ⟨sub, p, hg⟩ => by simp [hd] at hg, fun hall => absurd (hall _ hmem) (by simp)⟩
  · exact ⟨fun _ => hall, fun _ => hgrant⟩

/-! ## The checks of a subject and its product -/

/-- Checks 10 to 17 of R58 for a record and its product on day `today`. -/
def recordChecks (s : State) (l : Lane.Index) (today : Nat) (r : PassRecord) (p : Product) (fresh : Bool) :
    List (DenialReason × Bool) :=
  [(.wrongLane, !p.lanes.getLsbD l.val), (.refunded, r.refund.isSome), (.inUse, r.grantLane.isSome),
    (.notYet, p.cls != .season && decide (today < r.firstDay)),
    (.expired, p.cls != .season && decide (r.firstDay + r.window < today + 1)),
    (.daysExhausted, !r.usedDays.contains today && decide (p.allowed ≤ r.usedDays.length)),
    (.rideLimit, p.rideLimit != 0 && decide (p.rideLimit ≤ r.ridesToday)),
    (.passback, r.lastPassage.any (fun t => decide ((s.clock.timeOfDay + 86400 - t) % 86400 < p.passback * 60))),
    (.tableFull, fresh && decide (4096 ≤ s.passes.length))]

theorem lane_mask (b : Byte) (l : Lane.Index) : (!b.getLsbD l.val) = true ↔ b &&& laneBit l = 0#8 := by
  have hl := l.isLt
  constructor
  · intro h
    ext i hi
    by_cases hil : i = l.val
    · simp [laneBit, hil] at h ⊢
      simp [h]
    · simp [laneBit]
      omega
  · intro h
    have hbit := congrArg (fun m : Byte => m.getLsbD l.val) h
    simpa [laneBit, hl] using hbit

/-- The decision of checks whose first failing one is `o`. -/
def decisionOf (sub : Subject) (p : Product) (o : Option DenialReason) : Decision :=
  match o with
  | some reason => .deny reason
  | none => .grant sub p

theorem decisionOf_ite (sub : Subject) (p : Product) (c : Prop) [Decidable c] (reason : DenialReason)
    (o : Option DenialReason) :
    decisionOf sub p (if c then some reason else o) = if c then .deny reason else decisionOf sub p o := by
  split <;> rfl

/-- Checks 13 to 17, in their order. -/
theorem decides_usageChecks (s : State) (l : Lane.Index) (today : Nat) (sub : Subject) (p : Product) :
    Decides ((recordChecks s l today sub.record p sub.provisional).drop 3)
      (decisionOf sub p (s.usageChecks today sub p)) := by
  have hlast : (sub.record.lastPassage.any fun t => decide ((s.clock.timeOfDay + 86400 - t) % 86400 < p.passback * 60)) =
      (match sub.record.lastPassage with
        | none => false
        | some t => decide (secondsSince t s.clock.timeOfDay < 60 * p.passback)) := by
    cases sub.record.lastPassage with
    | none => rfl
    | some t => simp [secondsSince, Config.daySeconds, Nat.mul_comm]
  refine .check (by simp) (decisionOf_ite ..) fun _ => ?_
  refine .check (by simp) (decisionOf_ite ..) fun _ => ?_
  refine .check (by simp) (decisionOf_ite ..) fun _ => ?_
  refine .check (by simp) (decisionOf_ite ..) fun _ => ?_
  refine .check (Bool.eq_iff_iff.1 hlast) (decisionOf_ite ..) fun _ => ?_
  exact .check (by simp [Config.passCapacity, State.passCount]) (decisionOf_ite ..) fun _ => .granted rfl

/-- Checks 10 to 17 for a subject whose product is valid. -/
theorem decides_subjectChecks (s : State) (l : Lane.Index) (today : Nat) (sub : Subject) (p : Product)
    (hp : lookupProduct s.products.active sub.record.product = some p) :
    Decides (recordChecks s l today sub.record p sub.provisional) (s.subjectChecks l today sub) := by
  have hchecks : s.subjectChecks l today sub =
      if p.lanes &&& laneBit l = 0#8 then .deny .wrongLane
      else if sub.record.refund.isSome then .deny .refunded
      else if sub.record.grantLane.isSome then .deny .inUse
      else decisionOf sub p (s.usageChecks today sub p) := by
    simp only [State.subjectChecks, hp]
    rfl
  refine .check (lane_mask _ _) hchecks fun _ => ?_
  refine .check Iff.rfl rfl fun _ => ?_
  exact .check Iff.rfl rfl fun _ => decides_usageChecks s l today sub p

/-! ## The whole table -/

/-- The decision on a day that is open, its checks from 4 to 8 written as one chain. -/
theorem State.dayChecks_eq (s : State) (l : Lane.Index) (today : Nat) (tap : Tap) :
    s.dayChecks l today tap =
      if s.clock.isSet = false then .deny .clockNotSet
      else if dayStatus s.days.active today = .unscheduled then .deny .dayUnscheduled
      else if dayStatus s.days.active today = .isClosed then .deny .dayClosed
      else if withinHours (openingMinute s.days.active today) (closingMinute s.days.active today) s.clock.timeOfDay = false
        then .deny .outsideHours
      else if listed s.hotList.active tap.serial = true then .deny .blocked
      else match s.subject l tap with
        | none => .deny .unknownPass
        | some sub => s.subjectChecks l today sub := by
  unfold State.dayChecks
  cases hstatus : dayStatus s.days.active today <;> simp <;> rfl

/-- Checks 8 to 17 with a subject found: the product's validity, and the checks of the subject and its product. -/
theorem decides_found {s : State} {l : Lane.Index} {today : Nat} {sub : Subject}
    {checks : List (DenialReason × Bool)}
    (hchecks : ∀ p, lookupProduct s.products.active sub.record.product = some p →
      checks = recordChecks s l today sub.record p sub.provisional) :
    Decides ((.unknownPass, false) :: (.unknownProduct, (lookupProduct s.products.active sub.record.product).isNone) ::
      checks) (s.subjectChecks l today sub) := by
  refine .passes rfl ?_
  cases hp : lookupProduct s.products.active sub.record.product with
  | none => exact .fails rfl (by simp [State.subjectChecks, hp])
  | some p => exact .passes rfl (hchecks p hp ▸ decides_subjectChecks s l today sub p hp)

/-- The subject of a tap without a record, whose product is offered to passes that are not listed (R62). -/
def provisionalSubject (l : Lane.Index) (tap : Tap) (p : Product) : Subject :=
  { record := { provisionalRecord l tap p with grantLane := none }, provisional := true }

theorem State.subject_of_no_record {s : State} {l : Lane.Index} {tap : Tap} (h : s.lookupPass tap.serial = none) :
    s.subject l tap =
      ((lookupProduct s.products.active tap.product).filter Product.admitUnlisted).map (provisionalSubject l tap) := by
  cases hp : lookupProduct s.products.active tap.product with
  | none => simp [State.subject, h, hp]
  | some p => by_cases hadmit : p.admitUnlisted = true <;> simp [State.subject, h, hp, hadmit, provisionalSubject]

/-- The decision is that of the table of checks. -/
theorem decides_admissionChecks (s : State) (l : Lane.Index) (tap : Tap) :
    Decides (admissionChecks s l tap) (s.decision l tap) := by
  unfold admissionChecks
  refine .check Iff.rfl rfl fun _ => ?_
  refine .check (by simp) rfl fun _ => ?_
  cases hday : s.clock.dayState with
  | dayOpen today =>
    refine .passes rfl ?_
    refine .check (by simp) (s.dayChecks_eq l today tap) fun _ => ?_
    refine .check (by simp) rfl fun _ => ?_
    refine .check (by simp) rfl fun _ => ?_
    refine .check (by simp) rfl fun _ => ?_
    refine .check (by simp) rfl fun _ => ?_
    cases hrecord : s.lookupPass tap.serial with
    | some r =>
      have hsubject : s.subject l tap = some { record := r, provisional := false } := by simp [State.subject, hrecord]
      simp only [hsubject]
      refine decides_found (sub := { record := r, provisional := false }) fun p hp => ?_
      have hproduct : lookupProduct s.products.active r.product = some p := hp
      simp only [Option.bind_some, hproduct]
      rfl
    | none =>
      cases hoffered : (lookupProduct s.products.active tap.product).filter Product.admitUnlisted with
      | none =>
        have hsubject : s.subject l tap = none := by rw [State.subject_of_no_record hrecord, hoffered]; rfl
        exact .fails rfl (by simp only [hsubject])
      | some offer =>
        have hsubject := State.subject_of_no_record (l := l) hrecord
        rw [hoffered] at hsubject
        simp only [hsubject, Option.map_some]
        refine decides_found (sub := provisionalSubject l tap offer) fun p hp => ?_
        have hproduct : lookupProduct s.products.active (provisionalRecord l tap offer).product = some p := hp
        simp only [Option.bind_some, hproduct]
        rfl
  | _ => exact .fails rfl rfl

/-- A granted subject is the record of the serial, or the provisional one of an offered product (R62, R63). -/
theorem decision_grant_subject {s : State} {l : Lane.Index} {tap : Tap} {sub : Subject} {p : Product}
    (h : s.decision l tap = .grant sub p) :
    lookupProduct s.products.active sub.record.product = some p ∧
      (∀ r, s.lookupPass tap.serial = some r → sub = { record := r, provisional := false }) ∧
      (s.lookupPass tap.serial = none → sub = provisionalSubject l tap p) := by
  obtain ⟨today, -, hsub, hp, -⟩ := decision_grant h
  refine ⟨hp, fun r hr => ?_, fun hr => ?_⟩
  · have hfound : s.subject l tap = some { record := r, provisional := false } := by simp [State.subject, hr]
    exact (Option.some.inj (hsub.symm.trans hfound))
  · rw [State.subject_of_no_record hr] at hsub
    obtain ⟨offer, hoffer, rfl⟩ := Option.map_eq_some_iff.1 hsub
    have hlookup : lookupProduct s.products.active tap.product = some offer := (Option.filter_eq_some_iff.1 hoffer).1
    have hsame : lookupProduct s.products.active tap.product = some p := hp
    rw [Option.some.inj (hlookup.symm.trans hsame)]

/-- Settles O46: the decision is that of the table of checks, and a grant's subject that of check 8. -/
theorem decisionFollowsTheChecks : Obligations.DecisionFollowsTheChecks := by
  intro s l tap
  have htable := decides_admissionChecks s l tap
  refine ⟨htable.deny_iff, htable.grant_iff, fun sub p hgrant => ?_⟩
  obtain ⟨hp, hfound, hoffered⟩ := decision_grant_subject hgrant
  refine ⟨hp, ?_⟩
  cases hrecord : s.lookupPass tap.serial with
  | some r => exact hfound r hrecord
  | none =>
    rw [hoffered hrecord]
    exact ⟨rfl, rfl⟩

end Sys2Proof.Machine

/-! Admission's effects (R47, R54 to R56, R69 to R73, R108): arrivals by mode and slot, denials, grants and the take-up of a
waiting credential. -/

namespace Sys2Proof.Machine

open Safety

/-! ## A verdict handed -/

theorem ReaderContext.hand_eq (c : ReaderContext) (v : Verdict) :
    c.hand v = if c.state = .online then { c with verdict := some v, carried := false } else c := by
  cases h : c.state <;> simp [ReaderContext.hand, h]

theorem State.handVerdict_eq (s : State) (l : Lane.Index) (v : Verdict) :
    s.handVerdict l v = s.setLane l { s.lane l with reader := (s.lane l).reader.hand v } := rfl

/-! ## Arrivals -/

/-- Settles O47. -/
theorem arrivalsByModeAndSlot : Obligations.ArrivalsByModeAndSlot := by
  intro s l tap
  simp only [← ReaderContext.hand_eq]
  refine ⟨fun h => ?_, fun g hmode hgrant hserial => ?_, fun g hmode hgrant hserial => ?_, fun sub p hmode hgrant hd => ?_,
    fun reason hmode hgrant hd => ?_⟩
  · rcases h with h | ⟨c, h⟩ <;> simp only [State.arrive, h]
  · simp only [State.arrive, hmode, hgrant, hserial, if_true, State.handVerdict_eq]
  · simp only [State.arrive, hmode, hgrant, hserial, if_false, State.handVerdict_eq, State.modLane_eq,
      State.lane_setLane_same, State.setLane_setLane]
  · simp only [State.arrive, hmode, hgrant, State.decideTap, hd]
  · simp only [State.arrive, hmode, hgrant, State.decideTap, hd]

/-! ## Denials -/

theorem getElem_bumpEntry {n : Nat} (v : Vector Nat n) (i : Nat) (k : Fin n) :
    (bumpEntry v i)[k] = if k.val = i then min (v[k] + 1) 65535 else v[k] := by
  by_cases hi : i < n
  · simp only [bumpEntry, hi, dif_pos, Fin.getElem_fin, Vector.getElem_set, satInc, Config.dailyMax]
    by_cases h : i = k.val
    · subst h; simp
    · rw [if_neg h, if_neg fun e => h e.symm]
  · have hk : ¬ k.val = i := fun h => hi (h ▸ k.isLt)
    simp only [bumpEntry, hi, dif_neg, not_false_eq_true, hk, if_false]

theorem DenialReason.number_range (r : DenialReason) : 1 ≤ r.number ∧ r.number ≤ 20 := by cases r <;> decide

theorem State.deny_eq (s : State) (l : Lane.Index) (reason : DenialReason) :
    s.deny l reason = { s.setLane l { s.lane l with
          counts := { (s.lane l).counts with denials := satInc (s.lane l).counts.denials },
          reader := (s.lane l).reader.hand (.deny reason) } with
        denials := bumpEntry s.denials (reason.number - 1) } := by
  simp [State.deny, State.count, State.handVerdict, State.modLane, State.setLane, State.lane]

/-! ## Grants -/

theorem Lane.place_eq_free (x : Lane) (g : Grant) :
    x.place g = { x with
      grant := some g,
      effective := (match x.settings.pace with | .free => x.settings.pending | .paced => x.effective),
      timer := (match x.settings.pace with | .free => some (LaneTimer.start x.settings.pending) | .paced => x.timer) } := by
  cases h : x.settings.pace <;> simp [Lane.place, h]

/-- The lane at a grant, before its command is derived (R69, R70, R108). -/
def Lane.granted (x : Lane) (g : Grant) (riders : Nat) : Lane :=
  { x.place g with
    counts := { x.counts with grants := satInc x.counts.grants }, reader := x.reader.hand (.grant riders) }

/-- The steps of a grant behind the locking of its record (R69). -/
theorem grantAt_steps (s : State) (l : Lane.Index) (g : Grant) (riders : Nat) (ps : List PassRecord)
    (bodies : List RecordBody) :
    State.handVerdict
        (State.count (State.modLane (s.written l (s.lane l) ps bodies) l fun x => x.place g) l
          fun c => { c with grants := satInc c.grants }) l (.grant riders) =
      s.written l ((s.lane l).granted g riders) ps bodies := by
  have hreader : ((s.lane l).place g).reader = (s.lane l).reader := by rw [Lane.place_eq_free]
  have hcounts : ((s.lane l).place g).counts = (s.lane l).counts := by rw [Lane.place_eq_free]
  rw [State.written_modLane, State.written_count, State.written_handVerdict]
  simp only [Lane.granted, hreader, hcounts]

/-- A grant on a pass that has its record. -/
theorem grantAt_recorded {s : State} {l : Lane.Index} {sub : Subject} {p : Product} (h : sub.provisional = false) :
    s.grantAt l sub p = State.derive (s.written l ((s.lane l).granted (newGrant s l sub p) p.riders)
      (changePass s.passes sub.record.serial fun r => { r with grantLane := some l }) []) l := by
  have hlocked : s.setGrantLane sub.record.serial (some l) = s.written l (s.lane l)
      (changePass s.passes sub.record.serial fun r => { r with grantLane := some l }) [] := by
    conv_lhs => rw [← State.written_start s l]
    exact State.written_setGrantLane ..
  simp only [State.grantAt, h, Bool.false_eq_true, if_false, hlocked, grantAt_steps]

/-- A grant on a pass that has none: its record is created (R23). -/
theorem grantAt_provisional {s : State} {l : Lane.Index} {sub : Subject} {p : Product} (h : sub.provisional = true) :
    s.grantAt l sub p = State.derive (s.written l ((s.lane l).granted (newGrant s l sub p) p.riders)
      (putPass s.passes { sub.record with grantLane := some l })
      [.passCreated sub.record.serial sub.record.product sub.record.firstDay]) l := by
  have hlocked : State.append { s with passes := putPass s.passes { sub.record with grantLane := some l } }
      (.passCreated sub.record.serial sub.record.product sub.record.firstDay) =
      s.written l (s.lane l) (putPass s.passes { sub.record with grantLane := some l })
        [.passCreated sub.record.serial sub.record.product sub.record.firstDay] := by
    rw [State.written, State.setLane_lane]
    rfl
  simp only [State.grantAt, h, if_true, hlocked, grantAt_steps]

/-- Settles O48: denials, grants with and without a record, and the take-up. -/
theorem grantsAndDenials : Obligations.GrantsAndDenials := by
  intro s l
  simp only [← ReaderContext.hand_eq]
  refine ⟨fun reason => ⟨_, State.deny_eq s l reason, fun i => ?_⟩, fun sub p => ⟨fun h => ?_, fun h => ?_⟩, fun h => ?_,
    fun w hw => ⟨fun hage => ?_, fun hage => ?_⟩⟩
  · obtain ⟨hlow, hhigh⟩ := reason.number_range
    rw [getElem_bumpEntry]
    have hi : i.val = reason.number - 1 ↔ i.val + 1 = reason.number := by omega
    simp only [hi]
  · rw [grantAt_recorded h]
    simp only [Lane.granted, Lane.place_eq_free]
    rfl
  · rw [grantAt_provisional h]
    simp only [Lane.granted, Lane.place_eq_free]
    rfl
  · simp only [State.takeUp, h]
  · simp only [State.takeUp, hw]
    rw [if_pos (show Config.staleAge < w.age from hage)]
    simp only [State.handVerdict_eq, State.modLane_eq, State.lane_setLane_same, State.setLane_setLane]
  · simp only [State.takeUp, hw]
    rw [if_neg (by simpa [Config.staleAge] using hage)]
    rfl

end Sys2Proof.Machine

/-! Passages and the ends of grants (R25, R26, R80, R85 to R94, R102). -/

namespace Sys2Proof.Machine

open Safety

/-! ## The end of a grant -/

/-- The lane whose grant has ended, counted as `counts` (R94, R102). -/
def Lane.ended (x : Lane) (counts : Counts) : Lane :=
  { x with
    grant := none, mode := x.mode.endHold, gate := x.gateAfter (match x.mode with | .held c => c | _ => .closeArm),
    timer := (match x.settings.pace with | .free => none | .paced => x.timer), counts := counts }

theorem LaneMode.endHold_heldCommand (m : LaneMode) :
    m.endHold.heldCommand.getD .closeArm = match m with | .held c => c | _ => .closeArm := by cases m <;> rfl

theorem Lane.vacate_eq_free (x : Lane) : x.vacate =
    { x with grant := none, timer := match x.settings.pace with | .free => none | .paced => x.timer } := by
  unfold Lane.vacate
  cases h : x.settings.pace <;> rfl

theorem LaneMode.endHold_eq_ite (m : LaneMode) : m.endHold = if m = .holdPending then .held .closeArm else m := by
  cases m <;> simp [LaneMode.endHold]

/-- The common end up to the take-up, behind the count and the record of the end (R94). -/
theorem State.written_commonEnd (s : State) (l : Lane.Index) (counts : Counts) (g : Grant) (record : RecordBody) :
    (s.written l { s.lane l with counts := counts } s.passes [record]).commonEnd l g =
      State.takeUp (s.written l ((s.lane l).ended counts)
        (s.passes.map fun r => if r.serial = g.serial then { r with grantLane := none } else r)
        ([record] ++ heldRecords l (s.lane l).mode)) l := by
  rw [State.commonEnd, State.written_release, State.written_endHold, State.written_derive, Lane.vacate_eq_free,
    Lane.derive_of_none rfl, LaneMode.endHold_heldCommand]
  rfl

theorem State.reportCompleted_written (s : State) (l : Lane.Index) (g : Grant) : s.reportCompleted l g =
    s.written l { s.lane l with
      counts := { (s.lane l).counts with completed := satInc (s.lane l).counts.completed } } s.passes
      [.grantClosed g.serial l g.passages] := rfl

theorem State.reportLapsed_written (s : State) (l : Lane.Index) (g : Grant) : s.reportLapsed l g =
    s.written l { s.lane l with counts := { (s.lane l).counts with lapsed := satInc (s.lane l).counts.lapsed } } s.passes
      [.grantLapsed g.serial l] := rfl

/-- Settles O51. -/
theorem grantsEnd : Obligations.GrantsEnd := by
  intro s n l g hl hg ended
  have hcompletes : ∀ u : State, (u.reportCompleted l g).commonEnd l g = ended u true := fun u => by
    rw [State.reportCompleted_written, State.written_commonEnd]
    simp only [Lane.ended, LaneMode.endHold_eq_ite]
    rfl
  have hlapses : ∀ u : State, (u.reportLapsed l g).commonEnd l g = ended u false := fun u => by
    rw [State.reportLapsed_written, State.written_commonEnd]
    simp only [Lane.ended, LaneMode.endHold_eq_ite]
    rfl
  have hend : ∀ u : State, (u.reportEnd l g).commonEnd l g = ended u (decide (1 ≤ g.passages)) := fun u => by
    by_cases hp : 1 ≤ g.passages
    · rw [decide_eq_true hp, ← hcompletes, State.reportEnd, if_pos hp]
    · rw [decide_eq_false hp, ← hlapses, State.reportEnd, if_neg hp]
  refine ⟨?_, fun hd hshut => ?_, fun h => ?_⟩
  · rw [← hend]
    show Host.Outcome.next _ = _
    rw [State.atLane_some hl, hg]
    rfl
  · rw [← hcompletes]
    simp only [State.settle, hg]
    exact if_pos ⟨hd, hshut⟩
  · simp only [State.settle, hg]
    exact if_neg fun hboth => h.elim (· hboth.1) (· hboth.2)

/-! ## The records of a passage -/

theorem mem_addDay (days : List Nat) (d e : Nat) : e ∈ addDay days d ↔ e ∈ days ∨ e = d := by
  induction days with
  | nil => simp [addDay]
  | cons first rest ih =>
    unfold addDay
    split
    · simp only [List.mem_cons]; tauto
    · split
      · next heq => simp only [List.mem_cons, heq]; tauto
      · simp only [List.mem_cons, ih, or_assoc]

theorem PassRecord.mem_commit (r : PassRecord) (d e : Nat) :
    e ∈ (r.commit d).usedDays ↔ e ∈ r.usedDays ∨ (e = d ∧ r.firstDay ≤ d ∧ d < r.firstDay + r.window) := by
  by_cases h : r.firstDay ≤ d ∧ d < r.firstDay + r.window
  · have hdays : (r.commit d).usedDays = addDay r.usedDays d := if_pos (decide_eq_true h)
    rw [hdays, mem_addDay]
    simp only [h, and_self, and_true]
  · have hdays : (r.commit d).usedDays = r.usedDays := if_neg (by simpa [PassRecord.inWindow] using h)
    simp only [hdays, h, and_false, or_false]

/-- The day commit at a grant's first passage and the passage note at each (R25, R26). -/
theorem State.noted_eq (s : State) {d : Nat} (hd : s.clock.dayState.today = some d) (committed : Bool) (serial : Nat) :
    State.passageNote (if committed then s else s.dayCommit serial) serial =
      { s with passes := s.passes.map (fun r => if r.serial = serial
        then { (if committed then r else r.commit d) with lastPassage := some s.clock.timeOfDay } else r) } := by
  cases committed with
  | true => rfl
  | false =>
    have hcommit : s.dayCommit serial = { s with passes := changePass s.passes serial (fun r => r.commit d) } := by
      simp only [State.dayCommit, hd]
    simp only [Bool.false_eq_true, if_false, hcommit, State.passageNote, changePass, List.map_map]
    congr 1
    refine List.map_congr_left fun r _ => ?_
    by_cases hr : r.serial = serial
    · have hkept : (r.commit d).serial = serial := hr
      simp only [Function.comp_apply, hr, if_true, hkept]
    · simp only [Function.comp_apply, hr, if_false]

/-- A passage counted on a live grant, written out (R85 to R87). -/
theorem State.countedPassage_eq (s : State) (l : Lane.Index) {d : Nat} (hd : s.clock.dayState.today = some d)
    {g : Grant} (hlive : g.state ≠ .draining) :
    let t : State :=
      { s.setLane l { s.lane l with
          counts := { (s.lane l).counts with
            riders := satInc (s.lane l).counts.riders, ridersSeason := wrapInc (s.lane l).counts.ridersSeason },
          grant := some g.forward } with
        riders := bumpEntry s.riders g.product,
        passes := s.passes.map (fun r => if r.serial = g.serial
          then { (if g.committed then r else r.commit d) with lastPassage := some s.clock.timeOfDay } else r) }
    s.countedPassage l g = if g.passages + 1 = g.allowance then t.rederive l else t := by
  intro t
  have hfull : g.forward.state = .draining ↔ g.passages + 1 = g.allowance := by
    by_cases hfull : g.passages + 1 = g.allowance <;> simp [Grant.forward, hfull, hlive]
  let u : State :=
    { s.count l (fun c => { c with riders := satInc c.riders, ridersSeason := wrapInc c.ridersSeason }) with
      riders := bumpEntry s.riders g.product }
  have ht : (State.passageNote (if g.committed then u else u.dayCommit g.serial) g.serial).modLane l
      (fun x => { x with grant := some g.forward }) = t := by
    rw [State.noted_eq u hd]
    have hlanes := State.modLane_modLane s l
      (fun x => { x with counts := { x.counts with
        riders := satInc x.counts.riders, ridersSeason := wrapInc x.counts.ridersSeason } })
      (fun x => { x with grant := some g.forward })
    exact congrArg (fun v : State => { v with riders := t.riders, passes := t.passes }) hlanes
  exact (congrArg (fun v : State => if g.forward.state = .draining then v.rederive l else v) ht).trans
    (by simp only [hfull])

/-! ## Passages by mode and grant -/

section

variable {s : State} {l : Lane.Index}

theorem State.passage_held {k : GateCommand} (way : Direction) (h : (s.lane l).mode = .held k) :
    s.passage l way = s.count l (fun c => { c with staff := satInc c.staff }) := by simp only [State.passage, h]

theorem State.passage_disabled (way : Direction) (h : (s.lane l).mode = .disabled) : s.passage l way = s := by
  simp only [State.passage, h]

theorem State.passage_forward (h : (s.lane l).mode = .auto ∨ (s.lane l).mode = .holdPending) :
    s.passage l .forward = s.forwardPassage l := by rcases h with h | h <;> simp only [State.passage, h]

theorem State.passage_reverse (h : (s.lane l).mode = .auto ∨ (s.lane l).mode = .holdPending) :
    s.passage l .reverse = s.reversePassage l := by rcases h with h | h <;> simp only [State.passage, h]

theorem State.forwardPassage_none (h : (s.lane l).grant = none) : s.forwardPassage l =
    (s.count l (fun c => { c with
      intrusions := satInc c.intrusions, intrusionsSeason := wrapInc c.intrusionsSeason })).append (.intrusion l) := by
  simp only [State.forwardPassage, h]

theorem State.forwardPassage_draining {g : Grant} (h : (s.lane l).grant = some g) (hd : g.state = .draining) :
    s.forwardPassage l =
      (s.count l (fun c => { c with tailgates := satInc c.tailgates })).append (.tailgate l g.serial) := by
  simp [State.forwardPassage, h, Grant.live, hd]

theorem State.forwardPassage_live {g : Grant} (h : (s.lane l).grant = some g) (hlive : g.state ≠ .draining) :
    s.forwardPassage l = s.countedPassage l g := by
  simp [State.forwardPassage, h, Grant.live, hlive]

theorem State.reversePassage_grant {c : Option Grant} (h : (s.lane l).grant = c) :
    ((s.count l (fun c => { c with reverse := satInc c.reverse })).lane l).grant = c :=
  (congrArg Lane.grant (State.lane_modLane_same s l _)).trans h

theorem State.reversePassage_none (h : (s.lane l).grant = none) :
    s.reversePassage l = s.count l (fun c => { c with reverse := satInc c.reverse }) := by
  simp only [State.reversePassage, State.reversePassage_grant h]

theorem State.reversePassage_fresh {g : Grant} (h : (s.lane l).grant = some g) (hp : g.passages = 0) :
    s.reversePassage l = s.count l (fun c => { c with reverse := satInc c.reverse }) := by
  simp only [State.reversePassage, State.reversePassage_grant h, hp, if_true]

theorem State.reversePassage_back {g : Grant} (h : (s.lane l).grant = some g) (hp : 1 ≤ g.passages) :
    let t := (s.count l (fun c => { c with reverse := satInc c.reverse })).modLane l
      (fun x => { x with grant := some g.back })
    s.reversePassage l = if g.state = .draining then t.rederive l else t := by
  have hsome : ¬ g.passages = 0 := by omega
  simp only [State.reversePassage, State.reversePassage_grant h, hsome, if_false]

end

/-- Settles O50. -/
theorem passagesCounted : Obligations.PassagesCounted := by
  refine ⟨fun r d => ⟨rfl, r.mem_commit d⟩, fun s l => ?_⟩
  refine ⟨fun k way h => State.passage_held way h, fun way h => State.passage_disabled way h, fun hmode => ?_⟩
  rw [State.passage_forward hmode, State.passage_reverse hmode]
  refine ⟨fun hg => ⟨State.forwardPassage_none hg, State.reversePassage_none hg⟩,
    fun g hg hdraining => State.forwardPassage_draining hg hdraining,
    fun g d hg hlive hd => ⟨bumpEntry s.riders g.product, fun i => ?_, ?_⟩, fun g hg => ⟨State.reversePassage_fresh hg,
      State.reversePassage_back hg⟩⟩
  · exact getElem_bumpEntry s.riders g.product i
  · exact (State.forwardPassage_live hg hlive).trans (State.countedPassage_eq s l hd hlive)

end Sys2Proof.Machine

/-! Beams, the recognizer and the loiter timer (R77, R78, R81). -/

namespace Sys2Proof.Machine

open Safety

/-! ## The recognizer's table -/

theorem Recognizer.passage_and_levels (r : Recognizer) (beam : Beam) :
    ((r.move beam).2 = some .forward ↔ (r = .leaveF ∨ r = .followF) ∧ beam = .b) ∧
    ((r.move beam).2 = some .reverse ↔ (r = .leaveR ∨ r = .followR) ∧ beam = .a) ∧
    (r.move beam).1.levels = (match beam with
      | .a => (!r.levels.1, r.levels.2)
      | .b => (r.levels.1, !r.levels.2)) := by
  cases r <;> cases beam <;> decide

/-! ## An accepted change -/

/-- The loiter timer and mark behind a move, each written out (R81). -/
theorem Lane.loiterAfter_eq_ite (x : Lane) (next : Recognizer) (way : Option Direction) :
    x.loiterAfter next way = { x with
      loiterTimer := (if next = .clear then none
        else if way.isSome = true ∨ x.recognizer = .clear then x.startLoiter else x.loiterTimer),
      loiterMark := (if next = .clear ∨ way.isSome = true then false else x.loiterMark) } := by
  unfold Lane.loiterAfter
  by_cases hnext : next = .clear
  · simp [hnext]
  · by_cases hway : way.isSome = true
    · simp [hnext, hway]
    · by_cases hclear : x.recognizer = .clear <;> simp [hnext, hway, hclear]

/-- The lane behind an accepted change of a beam whose raw level is that of `d` (R77, R78, R81). -/
theorem Lane.beamAccepted_written (y : Lane) (beam : Beam) {raw : Bool} (hraw : (y.beam beam).raw = raw) :
    y.beamAccepted beam = { y.setBeam beam { raw := raw, accepted := raw, running := none } with
      recognizer := (y.recognizer.move beam).1,
      loiterTimer := (if (y.recognizer.move beam).1 = .clear then none
        else if (y.recognizer.move beam).2.isSome = true ∨ y.recognizer = .clear then
          (if y.mode = .disabled then none else some { elapsed := 0, limit := 1000 * y.settings.loiterTime })
        else y.loiterTimer),
      loiterMark := (if (y.recognizer.move beam).1 = .clear ∨ (y.recognizer.move beam).2.isSome = true then false
        else y.loiterMark) } := by
  rw [Lane.beamAccepted, Debounce.accept, hraw, Lane.loiterAfter_eq_ite, startLoiter_eq_ite]
  cases beam <;> rfl

theorem Lane.beam_elapse (x : Lane) (ms : Nat) (beam : Beam) : ((x.elapse ms).beam beam).raw = (x.beam beam).raw := by
  cases beam <;> rfl

/-! ## The commands -/

section

variable {s : State} {n : Nat} {l : Lane.Index}

theorem execBeamInputChange_eq (hl : laneOf n = some l) (beam : Beam) (level : Bool) :
    exec (.beamInputChange n beam level) s = .next (if level = ((s.lane l).beam beam).raw then s
      else State.transmit (s.setLane l ((s.lane l).setBeam beam (((s.lane l).beam beam).change level)))) := by
  show Host.Outcome.next _ = _
  rw [State.atLane_some hl]
  rfl

theorem execBeamChangeAccepted_eq (hl : laneOf n = some l) {beam : Beam} {ms : Nat}
    (hrunning : ((s.lane l).beam beam).running = some ms) :
    exec (.beamChangeAccepted n beam) s = .next ((s.elapse (50 - ms)).beamAccepted l beam).transmit := by
  show Host.Outcome.next _ = _
  rw [State.atLane_some hl, hrunning]
  rfl

/-- LOITER at a lane whose loiter timer runs: the timer stops, the mark stands, and the event is counted unless the mark
stood (R81). -/
theorem execLoiter_eq (hl : laneOf n = some l) {k : Timer} (hk : (s.lane l).loiterTimer = some k) :
    let t := s.elapse k.left
    let marked := t.modLane l (fun x => { x with loiterTimer := none, loiterMark := true })
    exec (.loiter n) s = .next (State.transmit (if (s.lane l).loiterMark then marked
      else (marked.count l (fun c => { c with loiters := satInc c.loiters })).append (.laneEvent l .loiter))) := by
  intro t marked
  have hmark : (t.lane l).loiterMark = (s.lane l).loiterMark := (congrArg Lane.loiterMark (State.elapse_lane s k.left l)).trans rfl
  rw [← hmark]
  show Host.Outcome.next _ = _
  rw [State.atLane_some hl, hk]

end

/-- Settles O49. -/
theorem beamsMoveTheRecognizer : Obligations.BeamsMoveTheRecognizer := by
  refine ⟨by decide, fun r beam => r.passage_and_levels beam, fun s n l hl => ⟨fun beam level => ?_,
    fun beam ms hrunning => ?_, fun k hk => ⟨fun hmark => ?_, fun hmark => ?_⟩⟩⟩
  · exact execBeamInputChange_eq hl beam level
  · intro t y d next way fresh z
    have hz : y.beamAccepted beam = z :=
      Lane.beamAccepted_written y beam ((congrArg (fun x : Lane => (x.beam beam).raw) (State.elapse_lane s _ l)).trans
        (Lane.beam_elapse _ _ beam))
    rw [execBeamChangeAccepted_eq hl hrunning, ← hz]
    rfl
  · exact (execLoiter_eq hl hk).trans (by rw [hmark]; rfl)
  · refine (execLoiter_eq hl hk).trans ?_
    rw [hmark]
    simp only [Bool.false_eq_true, if_false, State.count, State.modLane_modLane]
    rfl

end Sys2Proof.Machine

/-! The gate's inputs and timers (R106, R115, R118). -/

namespace Sys2Proof.Machine

open Safety

section

variable {u t : State} {l : Lane.Index} {kind : FaultKind}

/-! ## Setting a fault -/

/-- The lane with a fault kind set and counted (R115). -/
def Lane.faulted (x : Lane) (kind : FaultKind) : Lane :=
  { x.setFault kind with counts := { x.counts with faults := satInc x.counts.faults } }

theorem LocalTo.setLane {s : State} (h : LocalTo l s t) (x : Lane) : LocalTo l s (t.setLane l x) := h.modLane fun _ => x

theorem FaultSet.any_add (f : FaultSet) (kind : FaultKind) : (f.add kind).any = true := by
  cases kind <;> simp [FaultSet.add, FaultSet.any]

/-- Under a fault the derivation takes OPEN from the grant and leaves the gate where it is (R107, R115). -/
theorem Lane.derive_of_fault {x : Lane} {lift : LiftState} (h : x.faults.any = true) : x.derive lift =
    { x with grant := if x.mode.serving then x.grant.map (fun g => g.derive false) else x.grant } := by
  have hopen : x.derivedOpen lift = false := by simp [Lane.derivedOpen, h]
  rw [Lane.derive_eq, Lane.gateAfter_of_fault h, hopen]

theorem State.raise_lane (u : State) (f : CauseSet → CauseSet) (k : Lane.Index) : (u.raise f).lane k = u.lane k := rfl

/-- What setting a kind that is not set writes (R115). -/
theorem State.setFault_eq (h : (u.lane l).faults.has kind = false) : u.setFault l kind =
    State.setLane
      (State.raise (State.append (u.setLane l ((u.lane l).faulted kind)) (.laneEvent l (.faultSet kind)))
        fun c => { c with laneFault := c.laneFault ||| laneBit l }) l
      (((u.lane l).faulted kind).derive u.pacing.lift) := by
  have hmarked : State.count (u.modLane l fun x => x.setFault kind) l (fun c => { c with faults := satInc c.faults }) =
      u.setLane l ((u.lane l).faulted kind) := by
    rw [State.count, State.modLane_modLane]
    rfl
  have hfault : ((u.lane l).faulted kind).faults.any = true := FaultSet.any_add _ _
  simp only [State.setFault, h, Bool.false_eq_true, if_false, hmarked]
  rw [State.rederive, State.derive_eq, State.raise_lane, State.append_lane, State.lane_setLane_same, State.raise_pacing,
    State.append_pacing, State.setLane_pacing]
  refine State.settle_of_gate ?_
  rw [State.lane_setLane_same, Lane.derive_of_fault hfault]
  exact fun h => GateState.noConfusion h

theorem State.append_laneFault (u : State) (b : RecordBody) :
    (u.append b).trunk.causes.laneFault = u.trunk.causes.laneFault := by
  simp only [State.append]
  split
  · split <;> rfl
  · rfl

/-- From `u` to `t` a fault kind has been set at the lane and nothing else has happened (R115). -/
structure FaultSetAt (u t : State) (l : Lane.Index) (kind : FaultKind) : Prop where
  lane : t.lane l = { (u.lane l).faulted kind with grant := (t.lane l).grant }
  grant : (t.lane l).grant = if (u.lane l).mode.serving then (u.lane l).grant.map (fun g => g.derive false)
    else (u.lane l).grant
  laneFault : t.trunk.causes.laneFault = u.trunk.causes.laneFault ||| laneBit l
  records : t.reports.records = u.reports.records ++ (if u.reports.records.length < Config.reportCapacity then
    [{ day := u.clock.dayState.today, time := u.clock.timeOfDay, isSet := u.clock.isSet,
       body := .laneEvent l (.faultSet kind) }] else [])
  others : ∀ k, k ≠ l → t.lane k = u.lane k
  passes : t.passes = u.passes
  clock : t.clock = u.clock
  pacing : t.pacing = u.pacing

theorem faultSetAt_setFault (h : (u.lane l).faults.has kind = false) : FaultSetAt u (u.setFault l kind) l kind := by
  have hfault : ((u.lane l).faulted kind).faults.any = true := FaultSet.any_add _ _
  have hlane : (u.setFault l kind).lane l = ((u.lane l).faulted kind).derive u.pacing.lift := by
    rw [State.setFault_eq h, State.lane_setLane_same]
  have hlocal : LocalTo l u (u.setFault l kind) := by
    rw [State.setFault_eq h]
    exact ((((LocalTo.refl l u).setLane _).append _).raise _).setLane _
  rw [Lane.derive_of_fault hfault] at hlane
  refine ⟨?_, ?_, ?_, ?_, hlocal.lane, ?_, hlocal.clock, hlocal.pacing⟩
  · rw [hlane]
  · rw [hlane]; rfl
  · rw [State.setFault_eq h]
    exact congrArg (· ||| laneBit l) (State.append_laneFault _ _)
  · rw [State.setFault_eq h]
    exact State.append_records _ _
  · rw [State.setFault_eq h]
    exact State.append_passes _ _

theorem Grant.derive_false_ne_opened (g : Grant) : (g.derive false).state ≠ .opened := by
  rw [Grant.derive_eq_ite]
  by_cases h : g.state = .draining <;> simp [h]

theorem FaultSetAt.not_opened (h : FaultSetAt u t l kind) (hserving : (u.lane l).mode.serving = true) {g : Grant}
    (hg : (t.lane l).grant = some g) : g.state ≠ .opened := by
  rw [h.grant, if_pos hserving] at hg
  obtain ⟨g', -, rfl⟩ := Option.map_eq_some_iff.1 hg
  exact g'.derive_false_ne_opened

theorem FaultSetAt.grant_isSome (h : FaultSetAt u t l kind) : (t.lane l).grant.isSome = (u.lane l).grant.isSome := by
  rw [h.grant]
  split
  · exact Option.isSome_map
  · rfl

/-! ## The commands -/

variable {s : State} {n : Nat}

theorem execArmClosed_eq (hl : laneOf n = some l) (active : Bool) : exec (.armClosed n active) s = .next
    (if active = (s.lane l).armClosed then s
    else ((s.setLane l ((s.lane l).armInput active)).settle l).transmit) := by
  show Host.Outcome.next _ = _
  rw [State.atLane_some hl]
  rfl

theorem execCloseLimitExpiry_eq (hl : laneOf n = some l) {k : Timer} (hk : (s.lane l).gate = .closing k) :
    exec (.closeLimitExpiry n) s = .next ((s.elapse k.left).setFault l .stuck).transmit := by
  show Host.Outcome.next _ = _
  rw [State.atLane_some hl, hk]

theorem execObstructionInputChange_eq (hl : laneOf n = some l) (active : Bool) :
    exec (.obstructionInputChange n active) s = .next (if active = (s.lane l).obstruction.raw then s
      else (s.setLane l { s.lane l with obstruction := (s.lane l).obstruction.change active }).transmit) := by
  show Host.Outcome.next _ = _
  rw [State.atLane_some hl]
  rfl

theorem execObstructionChangeAccepted_eq (hl : laneOf n = some l) {ms : Nat}
    (hrunning : (s.lane l).obstruction.running = some ms) :
    exec (.obstructionChangeAccepted n) s = .next ((s.elapse (20 - ms)).obstructionAccepted l).transmit := by
  show Host.Outcome.next _ = _
  rw [State.atLane_some hl, hrunning]
  rfl

theorem execRearmTimerExpiry_eq (hl : laneOf n = some l) {k : Timer} (hk : (s.lane l).rearm = .timing k) :
    exec (.rearmTimerExpiry n) s = .next ((s.elapse k.left).rearmExpired l).transmit := by
  show Host.Outcome.next _ = _
  rw [State.atLane_some hl, hk]

/-- The three ends of an obstruction debounce (R115, R118), by the level accepted and the lane's faults. -/
theorem State.obstructionAccepted_eq {v : State}
    (hset : u.setLane l { u.lane l with obstruction := (u.lane l).obstruction.accept } = v) :
    u.obstructionAccepted l =
      if (u.lane l).obstruction.raw = true then
        if (u.lane l).faults.obstruction = true then v.setLane l { v.lane l with rearm := .idle }
        else v.setFault l .obstruction
      else if (u.lane l).faults.obstruction = true ∧ (u.lane l).settings.fault = .autoClear then
        v.setLane l { v.lane l with rearm := .timing { elapsed := 0, limit := (u.lane l).settings.rearmTime } }
      else v := by
  have hv : v.lane l = { u.lane l with obstruction := (u.lane l).obstruction.accept } := by
    rw [← hset, State.lane_setLane_same]
  have hraw : (v.lane l).obstruction.accepted = (u.lane l).obstruction.raw := by rw [hv]; rfl
  have hfaults : (v.lane l).faults = (u.lane l).faults := by rw [hv]
  have hsettings : (v.lane l).settings = (u.lane l).settings := by rw [hv]
  rw [← hraw, ← hfaults, ← hsettings, ← hset]
  rfl

theorem State.rearmExpired_paced (h : (u.lane l).settings.pace = .paced) :
    u.rearmExpired l = u.modLane l (fun x => { x with rearm := .rearmed }) := by simp only [State.rearmExpired, h]

theorem State.rearmExpired_free (h : (u.lane l).settings.pace = .free) :
    u.rearmExpired l = u.clearFaults l .obstructionOnly := by simp only [State.rearmExpired, h]

/-- What the clearing of OBSTRUCTION leaves of the fault set and the re-arm timing (R119). -/
theorem State.clearFaults_obstruction (u : State) (l : Lane.Index) :
    ((u.clearFaults l .obstructionOnly).lane l).faults = { (u.lane l).faults with obstruction := false } ∧
      ((u.clearFaults l .obstructionOnly).lane l).rearm = .idle := by
  have h := State.clearFaults_faultPart u l .obstructionOnly
  simp only [FaultSet.remove, FaultSet.obstructionOnly, Bool.not_true, Bool.not_false, Bool.and_false, Bool.and_true,
    if_true, State.faultPart, Prod.mk.injEq] at h
  exact h

end

/-- Settles O52. -/
theorem gateInputsAndFaults : Obligations.GateInputsAndFaults := by
  intro s n l hl x faulted
  have hfaulted : ∀ u t kind, FaultSetAt u t l kind → faulted u t kind := fun u t kind h => by
    refine ⟨congrArg Lane.faults h.lane, congrArg Lane.gate h.lane, congrArg Lane.counts h.lane, (congrArg Lane.mode h.lane).trans rfl,
      (congrArg Lane.waiting h.lane).trans rfl, fun g hg hserving => h.not_opened hserving hg, h.grant_isSome, h.laneFault,
      fun hroom => ?_, h.others, h.passes, h.clock, h.pacing⟩
    rw [h.records, if_pos (show _ < Config.reportCapacity from hroom)]
  refine ⟨fun active hactive => ?_, fun active hactive => ?_, fun k hk hstuck => ⟨_, execCloseLimitExpiry_eq hl hk, ?_⟩,
    fun active => execObstructionInputChange_eq hl active, fun ms hrunning => ?_, fun k hk => ?_⟩
  · rw [execArmClosed_eq hl, if_neg hactive]
    rfl
  · rw [execArmClosed_eq hl, if_pos hactive]
  · refine hfaulted _ _ _ (faultSetAt_setFault ?_)
    rw [State.elapse_lane]
    exact hstuck
  · intro u v
    have hu : u.lane l = x.elapse (20 - ms) := State.elapse_lane s _ l
    have hraw : (u.lane l).obstruction.raw = x.obstruction.raw := by rw [hu]; rfl
    have hfaults : (u.lane l).faults = x.faults := by rw [hu]; rfl
    have hsettings : (u.lane l).settings = x.settings := by rw [hu]; rfl
    have hv : u.setLane l { u.lane l with obstruction := (u.lane l).obstruction.accept } = v := by
      rw [Debounce.accept, hraw]
    have hvfaults : (v.lane l).faults = x.faults :=
      (congrArg Lane.faults (State.lane_setLane_same u l _)).trans hfaults
    have haccepted := State.obstructionAccepted_eq hv
    rw [hraw, hfaults, hsettings] at haccepted
    rw [execObstructionChangeAccepted_eq hl hrunning]
    refine ⟨fun hactive hnone => ⟨_, congrArg (fun w : State => Host.Outcome.next w.transmit) ?_,
      hfaulted v _ _ (faultSetAt_setFault (hvfaults ▸ hnone))⟩, fun hactive hset => ?_, fun hinactive => ?_⟩
    · rw [haccepted, if_pos hactive, if_neg (by simp [hnone])]
    · rw [haccepted, if_pos hactive, if_pos hset]
    · rw [haccepted, if_neg (by simp [hinactive])]
  · intro u
    have hu : u.lane l = x.elapse k.left := State.elapse_lane s _ l
    have hpace : (u.lane l).settings.pace = x.settings.pace := by rw [hu]; rfl
    rw [execRearmTimerExpiry_eq hl hk]
    refine ⟨fun hpaced => ?_, fun hfree => ⟨u.clearFaults l .obstructionOnly, ?_, ?_, ?_, fun j hj =>
      ((LocalTo.refl l u).clearFaults _).lane j hj, fun hmode => ?_⟩⟩
    · exact congrArg (fun w : State => Host.Outcome.next w.transmit) (State.rearmExpired_paced (hpace.trans hpaced))
    · exact congrArg (fun w : State => Host.Outcome.next w.transmit) (State.rearmExpired_free (hpace.trans hfree))
    · exact (State.clearFaults_obstruction u l).1.trans (by rw [hu]; rfl)
    · exact (State.clearFaults_obstruction u l).2
    · refine clearFaults_eq_faultsCleared .obstructionOnly ?_
      rw [hu]
      exact fun h => hmode (by simpa [Lane.elapse] using h)

end Sys2Proof.Machine

/-! What the events at a paced lane's grant, command and faults leave alone: its settings, its window and its timer
(R108 to R110). -/

namespace Sys2Proof.Machine

open Safety

variable {s u : State} {l : Lane.Index} {x z : Lane}

/-- A paced lane with the settings, the effective window, the lane timer and the carry mark of `z`, DISABLED as `z` is. -/
def PacedAs (z x : Lane) : Prop :=
  x.settings.pace = .paced ∧ x.settings = z.settings ∧ x.effective = z.effective ∧ x.timer = z.timer ∧
    x.carry = z.carry ∧ (x.mode = .disabled ↔ z.mode = .disabled)

theorem PacedAs.refl (h : x.settings.pace = .paced) : PacedAs x x := ⟨h, rfl, rfl, rfl, rfl, Iff.rfl⟩

theorem PacedAs.derive (h : PacedAs z x) (lift : LiftState) : PacedAs z (x.derive lift) := by
  rw [Lane.derive_eq]
  exact h

theorem PacedAs.place (h : PacedAs z x) (g : Grant) : PacedAs z (x.place g) := by
  simp only [Lane.place, h.1]
  exact h

theorem PacedAs.vacate (h : PacedAs z x) : PacedAs z x.vacate := by
  simp only [Lane.vacate, h.1]
  exact h

theorem PacedAs.setLane (h : PacedAs z x) : PacedAs z ((s.setLane l x).lane l) := by rwa [State.lane_setLane_same]

theorem PacedAs.append (h : PacedAs z (s.lane l)) (b : RecordBody) : PacedAs z ((s.append b).lane l) := by
  rwa [State.append_lane]

theorem PacedAs.deny (h : PacedAs z (s.lane l)) (r : DenialReason) : PacedAs z ((s.deny l r).lane l) := by
  rw [State.deny_lane]
  exact h

theorem PacedAs.grantAt (h : PacedAs z (s.lane l)) (sub : Subject) (p : Product) :
    PacedAs z ((s.grantAt l sub p).lane l) := by
  have hgranted : PacedAs z ((s.lane l).granted (newGrant s l sub p) p.riders) := h.place (newGrant s l sub p)
  cases hprovisional : sub.provisional with
  | false =>
    rw [grantAt_recorded hprovisional, State.written_derive, State.written_lane]
    exact hgranted.derive _
  | true =>
    rw [grantAt_provisional hprovisional, State.written_derive, State.written_lane]
    exact hgranted.derive _

theorem PacedAs.decideTap (h : PacedAs z (s.lane l)) (tap : Tap) : PacedAs z ((s.decideTap l tap).lane l) := by
  unfold State.decideTap
  split
  · exact h.grantAt _ _
  · refine PacedAs.deny ?_ _
    split
    · exact h.append _
    · exact h

theorem PacedAs.takeUp (h : PacedAs z (s.lane l)) : PacedAs z ((s.takeUp l).lane l) := by
  cases hw : (s.lane l).waiting with
  | none => simpa only [State.takeUp, hw] using h
  | some w =>
    have hempty : PacedAs z ((s.setLane l { s.lane l with waiting := none }).lane l) := PacedAs.setLane h
    have htaken : s.takeUp l = if Config.staleAge < w.age then
        State.handVerdict (s.setLane l { s.lane l with waiting := none }) l .retap
      else State.decideTap (s.setLane l { s.lane l with waiting := none }) l
        { serial := w.serial, product := w.product, firstDay := w.firstDay } := by
      simp only [State.takeUp, hw]
      rfl
    rw [htaken]
    split
    · exact PacedAs.setLane hempty
    · exact hempty.decideTap _

theorem PacedAs.endHold (h : PacedAs z (s.lane l)) : PacedAs z ((s.endHold l).lane l) := by
  unfold State.endHold
  split
  · next hmode =>
    obtain ⟨hpace, hsettings, heffective, htimer, hcarry, hdisabled⟩ := h
    rw [State.append_lane]
    refine PacedAs.setLane ⟨hpace, hsettings, heffective, htimer, hcarry, ?_⟩
    rw [← hdisabled, hmode]
    exact ⟨fun h => LaneMode.noConfusion h, fun h => LaneMode.noConfusion h⟩
  · exact h

theorem PacedAs.commonEnd (h : PacedAs z (s.lane l)) (g : Grant) : PacedAs z ((s.commonEnd l g).lane l) := by
  have hreleased : PacedAs z ((s.release l g).lane l) := PacedAs.setLane (PacedAs.vacate h)
  exact PacedAs.takeUp (PacedAs.setLane (hreleased.endHold.derive _))

theorem PacedAs.reportCompleted (h : PacedAs z (s.lane l)) (g : Grant) :
    PacedAs z ((s.reportCompleted l g).lane l) := by
  rw [State.reportCompleted_written, State.written_lane]
  exact h

theorem PacedAs.settle (h : PacedAs z (s.lane l)) : PacedAs z ((s.settle l).lane l) := by
  unfold State.settle
  split
  · exact h
  · split
    · exact (h.reportCompleted _).commonEnd _
    · exact h

theorem PacedAs.rederive (h : PacedAs z (s.lane l)) : PacedAs z ((s.rederive l).lane l) :=
  (PacedAs.setLane (h.derive _)).settle

theorem PacedAs.clearFaults (h : PacedAs z (s.lane l)) (k : FaultSet) : PacedAs z ((s.clearFaults l k).lane l) := by
  have hcleared : PacedAs z ((s.lane l).cleared k) := by
    rw [Lane.cleared_eq]
    exact h
  rw [State.clearFaults_eq]
  refine PacedAs.rederive ?_
  simp only []
  split
  · rw [State.foldl_append_lane]
    exact hcleared.setLane
  · refine PacedAs.settle ?_
    rw [State.foldl_append_lane]
    exact hcleared.setLane

end Sys2Proof.Machine

/-! The carrier: sync events lane by lane, edges, the internal generator and sync loss (R110 to R114). -/

namespace Sys2Proof.Machine

open Safety

variable {s u v : State} {l : Lane.Index} {x : Lane}

/-! ## One lane of a round -/

/-- What a round leaves at a lane is what its event leaves there, on a state that has the lane and the carrier as they were
before the round. -/
theorem foldl_lanes_lane {g : State → Lane.Index → State} (hlocal : ∀ l v, LocalTo l v (g v l)) (l : Lane.Index) :
    ∀ (ls : List Lane.Index), ls.Nodup → l ∈ ls → ∀ u : State, ∃ v : State,
      v.lane l = u.lane l ∧ v.pacing = u.pacing ∧ (ls.foldl g u).lane l = (g v l).lane l
  | [], _, hl, _ => absurd hl List.not_mem_nil
  | k :: ks, hnodup, hl, u => by
    obtain ⟨hk, hks⟩ := List.nodup_cons.1 hnodup
    rw [List.foldl_cons]
    by_cases hkl : k = l
    · subst hkl
      refine ⟨u, rfl, rfl, ?_⟩
      exact List.foldlRecOn (motive := fun w : State => w.lane k = (g u k).lane k) ks _ rfl fun w hw j hj => by
        rw [(hlocal j w).lane k fun h => hk (h ▸ hj), hw]
    · obtain ⟨v, hv, hpacing, hfold⟩ := foldl_lanes_lane hlocal l ks hks
        ((List.mem_cons.1 hl).resolve_left fun h => hkl h.symm) (g u k)
      exact ⟨v, by rw [hv, (hlocal k u).lane l fun h => hkl h.symm], by rw [hpacing, (hlocal k u).pacing], hfold⟩

/-- A derivation without a DRAINING grant is what it writes. -/
theorem State.rederive_lane (h : ∀ g, (s.lane l).grant = some g → g.state ≠ .draining) :
    (s.rederive l).lane l = (s.lane l).derive s.pacing.lift := by
  have hderived := Lane.derived_derive (lift := s.pacing.lift) h
  have hlane : (s.derive l).lane l = (s.lane l).derive s.pacing.lift := State.lane_setLane_same ..
  rw [State.rederive]
  cases hg : ((s.derive l).lane l).grant with
  | none => rw [State.settle_of_none hg, hlane]
  | some g => rw [State.settle_of_live hg (hderived.2 g (hlane ▸ hg)), hlane]

/-! ## A sync event at a lane -/

/-- Steps 1 to 3 at a lane that is not DISABLED (R111). -/
def syncStarted (x : Lane) (v : State) (l : Lane.Index) : State :=
  if x.mode ≠ .disabled then v.setLane l (syncedLane (v.lane l)) else v

/-- Step 4 at a lane (R111). -/
def syncCleared (v : State) (l : Lane.Index) : State :=
  if (v.lane l).rearm = .rearmed then v.clearFaults l { obstruction := true, stuck := false } else v

/-- A sync event at a paced lane that was `x` before the round (R111). -/
def syncStep (x : Lane) (v : State) (l : Lane.Index) : State :=
  if x.settings.pace = .free then v
  else if x.mode ≠ .disabled then (syncCleared (syncStarted x v l) l).rederive l else syncCleared (syncStarted x v l) l

theorem synced_eq (u : State) :
    synced u = allLanes.foldl (fun v l => syncStep (u.lane l) v l) { u with pacing := { u.pacing with sinceSync := some 0 } } :=
  rfl

theorem LocalTo.syncStarted (x : Lane) (v : State) (l : Lane.Index) : LocalTo l v (syncStarted x v l) := by
  unfold Machine.syncStarted
  split
  · exact (LocalTo.refl l v).setLane _
  · exact .refl l v

theorem LocalTo.syncCleared (h : LocalTo l s v) : LocalTo l s (syncCleared v l) := by
  unfold Machine.syncCleared
  split
  · exact h.clearFaults _
  · exact h

theorem LocalTo.syncStep (x : Lane) (v : State) (l : Lane.Index) : LocalTo l v (syncStep x v l) := by
  unfold Machine.syncStep
  split
  · exact .refl l v
  · split
    · exact (LocalTo.syncStarted x v l).syncCleared.rederive
    · exact (LocalTo.syncStarted x v l).syncCleared

/-- What the steps 1 to 3 leave at the lane. -/
theorem syncStarted_lane (hv : v.lane l = x) :
    (syncStarted x v l).lane l = if x.mode = .disabled then x else syncedLane x := by
  unfold syncStarted
  by_cases h : x.mode = .disabled
  · rw [if_neg (not_not.2 h), if_pos h, hv]
  · rw [if_pos h, if_neg h, State.lane_setLane_same, hv]

theorem syncStep_disabled (hp : x.settings.pace = .paced) (h : x.mode = .disabled) :
    syncStep x v l = syncCleared (syncStarted x v l) l := by
  rw [syncStep, if_neg (by rw [hp]; decide), if_neg (not_not.2 h)]

theorem syncStep_enabled (hp : x.settings.pace = .paced) (h : x.mode ≠ .disabled) :
    syncStep x v l = (syncCleared (syncStarted x v l) l).rederive l := by
  rw [syncStep, if_neg (by rw [hp]; decide), if_pos h]

theorem State.faultPart_iff {p : FaultSet × Rearm} :
    v.faultPart l = p ↔ (v.lane l).faults = p.1 ∧ (v.lane l).rearm = p.2 := Prod.ext_iff

theorem syncStarted_faultPart (hv : v.lane l = x) : (syncStarted x v l).faultPart l = (x.faults, x.rearm) := by
  rw [State.faultPart, syncStarted_lane hv]
  split <;> rfl

theorem syncStep_faultPart (hp : x.settings.pace = .paced) :
    (syncStep x v l).faultPart l = (syncCleared (syncStarted x v l) l).faultPart l := by
  by_cases h : x.mode = .disabled
  · rw [syncStep_disabled hp h]
  · rw [syncStep_enabled hp h, State.rederive_faultPart]

/-- A re-armed OBSTRUCTION is cleared at every paced lane (R118). -/
theorem syncStep_rearmed (hv : v.lane l = x) (hp : x.settings.pace = .paced) (h : x.rearm = .rearmed) :
    ((syncStep x v l).lane l).faults = { x.faults with obstruction := false } ∧
      ((syncStep x v l).lane l).rearm = .idle := by
  obtain ⟨hfaults, hrearm⟩ := State.faultPart_iff.1 (syncStarted_faultPart hv)
  rw [h] at hrearm
  have hcleared : syncCleared (syncStarted x v l) l = (syncStarted x v l).clearFaults l .obstructionOnly := if_pos hrearm
  obtain ⟨hleft, hidle⟩ := State.clearFaults_obstruction (syncStarted x v l) l
  have hpart := syncStep_faultPart (v := v) (l := l) hp
  rw [hcleared, State.faultPart_iff, State.faultPart, hleft, hidle, hfaults] at hpart
  exact hpart

/-- Without one, step 4 does nothing. -/
theorem syncCleared_of_not_rearmed (hv : v.lane l = x) (h : x.rearm ≠ .rearmed) :
    syncCleared (syncStarted x v l) l = syncStarted x v l :=
  if_neg fun hr => h ((State.faultPart_iff.1 (syncStarted_faultPart hv)).2.symm.trans hr)

theorem syncStep_not_rearmed (hv : v.lane l = x) (hp : x.settings.pace = .paced) (h : x.rearm ≠ .rearmed) :
    ((syncStep x v l).lane l).faults = x.faults ∧ ((syncStep x v l).lane l).rearm = x.rearm ∧
      (x.mode = .disabled → (syncStep x v l).lane l = x) ∧
      (x.mode ≠ .disabled → (∀ g, x.grant = some g → g.state ≠ .draining) →
        (syncStep x v l).lane l = (syncedLane x).derive v.pacing.lift) := by
  have hcleared := syncCleared_of_not_rearmed hv h
  have hpart := syncStep_faultPart (v := v) (l := l) hp
  rw [hcleared, syncStarted_faultPart hv, State.faultPart_iff] at hpart
  refine ⟨hpart.1, hpart.2, fun hm => ?_, fun hm hlive => ?_⟩
  · rw [syncStep_disabled hp hm, hcleared, syncStarted_lane hv, if_pos hm]
  · have hlane : (syncStarted x v l).lane l = syncedLane x := by rw [syncStarted_lane hv, if_neg hm]
    rw [syncStep_enabled hp hm, hcleared, State.rederive_lane (by rw [hlane]; exact hlive), hlane,
      (LocalTo.syncStarted x v l).pacing]

/-- The window, the timer and the carry mark that a sync event leaves at a paced lane that is not DISABLED. -/
theorem syncStep_pacedAs (hv : v.lane l = x) (hp : x.settings.pace = .paced) (hm : x.mode ≠ .disabled) :
    PacedAs (syncedLane x) ((syncStep x v l).lane l) := by
  have hstarted : PacedAs (syncedLane x) ((syncStarted x v l).lane l) := by
    rw [syncStarted_lane hv, if_neg hm]
    exact .refl hp
  rw [syncStep_enabled hp hm]
  refine PacedAs.rederive ?_
  unfold syncCleared
  split
  · exact hstarted.clearFaults _
  · exact hstarted

theorem syncedLane_carry (x : Lane) : (syncedLane x).carry = true ↔
    ∃ k, x.timer = some k ∧ k.openReached = true ∧ x.effective.openAt ≠ x.effective.closeAt := by
  cases h : x.timer <;> simp [syncedLane, h]

/-! ## The whole round -/

/-- What a sync event leaves at a lane. -/
theorem synced_lane (u : State) (l : Lane.Index) :
    ∃ v : State, v.lane l = u.lane l ∧ v.pacing.lift = u.pacing.lift ∧
      (synced u).lane l = (syncStep (u.lane l) v l).lane l := by
  obtain ⟨v, hv, hpacing, hlane⟩ := foldl_lanes_lane (fun l v => LocalTo.syncStep (u.lane l) v l) l allLanes allLanes_nodup
    (mem_allLanes l) { u with pacing := { u.pacing with sinceSync := some 0 } }
  rw [synced_eq]
  exact ⟨v, hv, by rw [hpacing], hlane⟩

theorem synced_pacing (u : State) : (synced u).pacing = { u.pacing with sinceSync := some 0 } :=
  foldl_lanes_pacing (fun l v => LocalTo.syncStep (u.lane l) v l) allLanes _

theorem Lane.sync_eq (x : Lane) : x.sync = syncedLane x := by
  cases h : x.timer with
  | none => simp [Lane.sync, syncedLane, Lane.nextCarry, h, LaneTimer.start]
  | some k =>
    simp only [Lane.sync, syncedLane, Lane.nextCarry, h, LaneTimer.start]
    simp [bne, Bool.beq_eq_decide_eq]

theorem syncStarted_mode (hv : v.lane l = x) : ((syncStarted x v l).lane l).mode = x.mode := by
  rw [syncStarted_lane hv]
  split <;> rfl

theorem syncStarted_pace (hv : v.lane l = x) : ((syncStarted x v l).lane l).settings.pace = x.settings.pace := by
  rw [syncStarted_lane hv]
  split <;> rfl

theorem syncCleared_mode (hv : v.lane l = x) (hp : x.settings.pace = .paced) :
    ((syncCleared (syncStarted x v l) l).lane l).mode = .disabled ↔ x.mode = .disabled := by
  have hstarted : PacedAs ((syncStarted x v l).lane l) ((syncStarted x v l).lane l) :=
    .refl ((syncStarted_pace hv).trans hp)
  have hcleared : PacedAs ((syncStarted x v l).lane l) ((syncCleared (syncStarted x v l) l).lane l) := by
    unfold syncCleared
    split
    · exact hstarted.clearFaults _
    · exact hstarted
  obtain ⟨-, -, -, -, -, hmode⟩ := hcleared
  rw [hmode, syncStarted_mode hv]

/-- The model's event at a lane is that of the round written out. -/
theorem syncLane_eq (hv : v.lane l = x) : v.syncLane l = syncStep x v l := by
  cases hp : x.settings.pace with
  | free =>
    rw [syncStep, if_pos hp]
    simp only [State.syncLane, hv, hp]
  | paced =>
    have hstarted : (if x.mode = .disabled then v else v.modLane l Lane.sync) = syncStarted x v l := by
      rw [State.modLane_eq, Lane.sync_eq, syncStarted, ite_not]
    have hevent : v.syncLane l = if ((syncCleared (syncStarted x v l) l).lane l).mode = .disabled
        then syncCleared (syncStarted x v l) l else (syncCleared (syncStarted x v l) l).rederive l := by
      rw [← hstarted]
      simp only [State.syncLane, hv, hp]
      rfl
    rw [hevent]
    simp only [syncCleared_mode hv hp]
    by_cases hm : x.mode = .disabled
    · rw [if_pos hm, syncStep_disabled hp hm]
    · rw [if_neg hm, syncStep_enabled hp hm]

theorem syncEvent_eq (u : State) : u.syncEvent = synced u := by
  rw [State.syncEvent, State.eachLane, synced_eq]
  exact eachLane_congr (fun l v => LocalTo.syncStep (u.lane l) v l) fun l v hv => syncLane_eq hv

/-! ## Sync loss -/

/-- What the lift's stop leaves at a lane. -/
theorem liftStopped_lane (u : State) (l : Lane.Index) :
    ∃ v : State, v.lane l = (u.lane l).liftStop ∧ v.pacing.lift = .stopped ∧
      (liftStopped u).lane l = (if (u.lane l).settings.pace = .paced then v.rederive l else v).lane l := by
  obtain ⟨v, hv, hpacing, hlane⟩ := foldl_lanes_lane
    (fun l v => localTo_if_rederive (fun l _ => (u.lane l).settings.pace = .paced) l v) l allLanes allLanes_nodup
    (mem_allLanes l) { u with pacing := u.pacing.stop, lanes := u.lanes.map Lane.liftStop }
  have hfold : (liftStopped u).lane l = (allLanes.foldl
      (fun (v : State) (l : Lane.Index) => if (u.lane l).settings.pace = .paced then v.rederive l else v)
      { u with pacing := u.pacing.stop, lanes := u.lanes.map Lane.liftStop }).lane l := by
    rw [liftStopped, State.raise_lane, State.append_lane]
    rfl
  refine ⟨v, hv.trans ?_, by rw [hpacing]; rfl, hfold.trans hlane⟩
  simp only [State.lane, Fin.getElem_fin, Vector.getElem_map]

theorem liftStopped_free (h : (u.lane l).settings.pace = .free) :
    (liftStopped u).lane l = { u.lane l with carry := false } := by
  obtain ⟨v, hv, -, hlane⟩ := liftStopped_lane u l
  rw [hlane, if_neg (by rw [h]; decide), hv]
  simp only [Lane.liftStop, h]

theorem Lane.liftStop_paced (h : x.settings.pace = .paced) : x.liftStop = { x with timer := none, carry := false } := by
  simp only [Lane.liftStop, h]

theorem liftStopped_paced (h : (u.lane l).settings.pace = .paced) :
    ((liftStopped u).lane l).timer = none ∧ ((liftStopped u).lane l).carry = false ∧
      ((liftStopped u).lane l).faults = (u.lane l).faults ∧
      ((∀ g, (u.lane l).grant = some g → g.state ≠ .draining) →
        (liftStopped u).lane l = Lane.derive { u.lane l with timer := none, carry := false } .stopped) := by
  obtain ⟨v, hv, hlift, hlane⟩ := liftStopped_lane u l
  rw [Lane.liftStop_paced h] at hv
  rw [if_pos h] at hlane
  have hpaced : PacedAs { u.lane l with timer := none, carry := false } (v.lane l) := by
    rw [hv]
    exact .refl h
  obtain ⟨-, -, -, htimer, hcarry, -⟩ := hpaced.rederive
  have hfaults : ((v.rederive l).lane l).faults = (u.lane l).faults :=
    (State.faultPart_iff.1 (State.rederive_faultPart v l)).1.trans ((congrArg Lane.faults hv).trans rfl)
  rw [hlane]
  refine ⟨htimer, hcarry, hfaults, fun hlive => ?_⟩
  rw [State.rederive_lane (by rw [hv]; exact hlive), hv, hlift]

theorem liftStopped_cause (u : State) : (liftStopped u).trunk.causes.liftStopped = true := by
  rw [liftStopped, State.raise_eq]

/-! ## The commands -/

theorem State.elapse_internalPeriod (s : State) (ms : Nat) :
    (s.elapse ms).pacing.internalPeriod = s.pacing.internalPeriod := by
  rw [State.elapse, State.advance, State.transmit_pacing]

theorem Pacing.accepts_iff {p : Pacing} :
    p.accepts = true ↔ p.source = .external ∧ ∀ ms, p.sinceSync = some ms → 500 ≤ ms := by
  cases h : p.sinceSync with
  | none => simp [Pacing.accepts, h]
  | some ms =>
    have haccepts : p.accepts = (p.source == .external && decide (500 ≤ ms)) := by simp only [Pacing.accepts, h]; rfl
    simp only [haccepts, Bool.and_eq_true, beq_iff_eq, decide_eq_true_eq, Option.some.injEq, forall_eq']

/-- An accepted edge resumes a STOPPED lift before its sync event (R112, R114). -/
theorem execCarrierSyncEdge_accepted (h : s.pacing.accepts = true) :
    exec .carrierSyncEdge s = .next (State.transmit (State.syncEvent
      { (if s.pacing.lift = .stopped then s.append (.liftEvent .running) else s) with
        pacing := Pacing.edge { s.pacing with lift := .running } })) := by
  have hedge := State.resumed_eq s (Pacing.edge { s.pacing with lift := .running })
  have hexec : exec .carrierSyncEdge s = .next (State.transmit (State.syncEvent
      { (if s.pacing.lift = .stopped then s.resumeLift else s) with
        pacing := (if s.pacing.lift = .stopped then s.resumeLift else s).pacing.edge })) :=
    congrArg Host.Outcome.next (if_pos h)
  rw [hexec, resumed_pacing, hedge]
  by_cases hstopped : s.pacing.lift = .stopped
  · rw [if_pos hstopped, if_pos hstopped]
    exact congrArg (fun w : State => Host.Outcome.next (State.transmit w.syncEvent))
      (State.append_setPacing s s.pacing _ _).symm
  · rw [if_neg hstopped, if_neg hstopped]

theorem execCarrierSyncEdge_ignored (h : ¬ s.pacing.accepts = true) : exec .carrierSyncEdge s = .next s :=
  congrArg Host.Outcome.next (if_neg h)

/-- Settles O53. -/
theorem carrierPacesTheLanes : Obligations.CarrierPacesTheLanes := by
  refine ⟨fun u l => ?_, fun s => ⟨fun hsource hspacing => ?_, fun hignored => ?_, fun k hk => ?_, fun ms hms => ?_⟩⟩
  · obtain ⟨v, hv, hlift, hlane⟩ := synced_lane u l
    simp only [hlane]
    refine ⟨synced_pacing u, fun hp => ?_, fun hp hr => syncStep_rearmed hv hp hr, fun hp hr => ?_, fun hp hm => ?_⟩
    · rw [syncStep, if_pos hp, hv]
    · have h := syncStep_not_rearmed hv hp hr
      rwa [hlift] at h
    · obtain ⟨-, -, heffective, htimer, hcarry, -⟩ := syncStep_pacedAs hv hp hm
      exact ⟨heffective, htimer, by rw [hcarry, syncedLane_carry]⟩
  · rw [execCarrierSyncEdge_accepted (Pacing.accepts_iff.2 ⟨hsource, hspacing⟩), syncEvent_eq]
    rfl
  · refine execCarrierSyncEdge_ignored fun h => ?_
    obtain ⟨hsource, hspacing⟩ := Pacing.accepts_iff.1 h
    rcases hignored with hinternal | ⟨ms, hms, hless⟩
    · rw [hsource] at hinternal
      cases hinternal
    · exact absurd (hspacing ms hms) (by omega)
  · intro u
    have htick : exec .internalCarrierTick s = .next (State.transmit (State.syncEvent { u with pacing := { u.pacing with
        generator := some { elapsed := 0, limit := u.pacing.internalPeriod } } })) := by
      show Host.Outcome.next _ = _
      rw [hk]
      rfl
    rw [htick, syncEvent_eq, State.elapse_internalPeriod]
  · intro u t
    have hstop : exec .syncLoss s = .next (State.transmit u.stopLift) := by
      show Host.Outcome.next _ = _
      rw [hms]
    rw [hstop, stopLift_eq_liftStopped]
    exact ⟨rfl, liftStopped_pacing u, liftStopped_cause u, fun l => liftStopped_free, fun l => liftStopped_paced⟩

end Sys2Proof.Machine

/-! The end of an exchange on the lane bus (R40, R42 to R46, R49). -/

namespace Sys2Proof.Machine

open Safety

section

variable {s u : State} {l : Lane.Index} {p : Poll}

/-! ## The poll that ends -/

/-- No poll outstanding. -/
def State.freed (s : State) : State := { s with bus := { s.bus with poll := none } }

/-- The transmitter does not look at the lane bus. -/
theorem State.transmit_setBus (s : State) (b : Bus) :
    State.transmit { s with bus := b } = { s.transmit with bus := b } := by
  cases hs : s.trunk.sending with
  | some f => rw [State.transmit_sending hs, State.transmit_sending (s := { s with bus := b }) hs]
  | none =>
    by_cases ha : s.trunk.attention = .pending
    · rw [State.transmit_attention hs ha, State.transmit_attention (s := { s with bus := b }) hs ha]
      rfl
    · cases hr : s.trunk.ready with
      | cons source rest =>
        rw [State.transmit_ready hs ha hr, State.transmit_ready (s := { s with bus := b }) hs ha hr]
        cases source with
        | response =>
          cases hq : s.trunk.queue with
          | nil => simp only [State.beginAnswer, hq]
          | cons q more =>
            obtain ⟨tag, payload, condition⟩ := q
            cases condition <;> simp only [State.beginAnswer, hq]
        | busy => cases hb : s.trunk.busy <;> simp only [State.beginAnswer, hb]
      | nil =>
        rw [State.transmit_reports hs ha hr, State.transmit_reports (s := { s with bus := b }) hs ha hr]
        split <;> rfl

theorem State.freed_elapse (s : State) (ms : Nat) : (s.elapse ms).freed = s.freed.elapse ms := by
  have hfreed : s.freed.transmit = s.transmit.freed := by
    rw [State.freed, State.transmit_setBus, State.freed, State.transmit_bus]
  rw [State.elapse, State.elapse, hfreed]
  rfl

theorem State.judged_void (hv : p.void = true) (r : Option Reply) :
    s.judged p r = (State.visit (lanesAfter p.lane) s.freed).transmit := by
  simp only [State.judged, hv, if_true]
  rfl

theorem State.judged_good (hv : p.void = false) (r : Reply) :
    s.judged p (some r) = (State.visit (lanesAfter p.lane) (s.freed.goodReply p r)).transmit := by
  simp only [State.judged, hv, Bool.false_eq_true, if_false]
  rfl

theorem State.judged_failed (hv : p.void = false) :
    s.judged p none = (State.visit (lanesAfter p.lane) (s.freed.failPoll p.lane)).transmit := by
  simp only [State.judged, hv, Bool.false_eq_true, if_false]
  rfl

/-! ## The commands -/

theorem execReplyReceived_ignored {bytes : List Byte} (h : s.bus.poll = none ∨ ∀ b ∈ bytes, b ≠ syncByte) :
    exec (.replyReceived bytes) s = .next s := by
  show Host.Outcome.next _ = _
  rcases h with h | h
  · rw [h]
  · have hnone : bytes.dropWhile (· != syncByte) = [] := List.dropWhile_eq_nil_iff.2 fun b hb => by simpa using h b hb
    rw [hnone]
    cases s.bus.poll <;> rfl

theorem execReplyReceived_judged (hp : s.bus.poll = some p) {bytes : List Byte} (h : ∃ b ∈ bytes, b = syncByte) :
    exec (.replyReceived bytes) s = .next (s.judged p (p.judge (bytes.dropWhile (fun b => b != syncByte)))) := by
  show Host.Outcome.next _ = _
  rw [hp]
  cases hrest : bytes.dropWhile (· != syncByte) with
  | nil =>
    obtain ⟨b, hb, rfl⟩ := h
    exact absurd (List.dropWhile_eq_nil_iff.1 hrest _ hb) (by simp)
  | cons b rest => rfl

theorem execPollTimeout_none (hp : s.bus.poll = none) : exec .pollTimeout s = .next s := by
  show Host.Outcome.next _ = _
  rw [hp]

theorem execPollTimeout_judged (hp : s.bus.poll = some p) :
    exec .pollTimeout s = .next ((s.elapse (3 - p.elapsed)).judged p none) := by
  show Host.Outcome.next _ = _
  rw [hp]
  rfl

/-! ## Failed polls -/

/-- The context after a failed poll, case by case (R43). -/
theorem ReaderContext.fail_offline {c : ReaderContext} (h : c.state = .offline) :
    c.fail = { c with failures := min (c.failures + 1) 3, offlineSkip := 7, carried := false } := by
  simp only [ReaderContext.fail, h]
  rfl

theorem ReaderContext.fail_online {c : ReaderContext} (h : c.state ≠ .offline) : c.fail =
    if c.failures < 2 then { c with failures := c.failures + 1, carried := false }
    else { c with state := .offline, failures := 3, offlineSkip := 7, verdict := none, carried := false } := by
  have honline : c.state = .online := by cases hs : c.state with
    | online => rfl
    | offline => exact absurd hs h
  simp only [ReaderContext.fail, honline]
  by_cases hfew : c.failures < 2
  · have hn : min (c.failures + 1) 3 = c.failures + 1 := by omega
    rw [if_pos hfew, if_neg (by omega), hn]
  · have hn : min (c.failures + 1) 3 = 3 := by omega
    rw [if_neg hfew, if_pos hn, hn]
    rfl

theorem State.failPoll_eq (u : State) (l : Lane.Index) :
    let failed := u.setLane l { u.lane l with
      counts := { (u.lane l).counts with readErrors := satInc (u.lane l).counts.readErrors },
      reader := (u.lane l).reader.fail }
    u.failPoll l = if (u.lane l).reader.state = .online ∧ (u.lane l).reader.fail.state = .offline then
      State.raise (failed.append (.laneEvent l .readerLost)) (fun k => { k with readerLost := k.readerLost ||| laneBit l })
      else failed := by
  intro failed
  have hfailed : (u.count l fun k => { k with readErrors := satInc k.readErrors }).modLane l
      (fun x => { x with reader := (u.lane l).reader.fail }) = failed := by
    rw [State.count, State.modLane_modLane]
    rfl
  rw [← hfailed]
  rfl

/-- A failed poll of a lane whose context is OFFLINE. -/
theorem State.failPoll_offline (h : (u.lane l).reader.state = .offline) : u.failPoll l =
    u.setLane l { u.lane l with
      counts := { (u.lane l).counts with readErrors := satInc (u.lane l).counts.readErrors },
      reader := { (u.lane l).reader with
        failures := min ((u.lane l).reader.failures + 1) 3, offlineSkip := 7, carried := false } } := by
  rw [State.failPoll_eq, if_neg (by rw [h]; simp), ReaderContext.fail_offline h]

/-- The first and the second failure of an ONLINE context. -/
theorem State.failPoll_online (h : (u.lane l).reader.state ≠ .offline) (hfew : (u.lane l).reader.failures < 2) :
    u.failPoll l = u.setLane l { u.lane l with
      counts := { (u.lane l).counts with readErrors := satInc (u.lane l).counts.readErrors },
      reader := { (u.lane l).reader with failures := (u.lane l).reader.failures + 1, carried := false } } := by
  rw [State.failPoll_eq, ReaderContext.fail_online h, if_pos hfew, if_neg fun hlost => h hlost.2]

/-- The third failure, which loses the reader. -/
theorem State.failPoll_lost (h : (u.lane l).reader.state ≠ .offline) (hmany : ¬ (u.lane l).reader.failures < 2) :
    u.failPoll l = State.raise (State.append (u.setLane l { u.lane l with
      counts := { (u.lane l).counts with readErrors := satInc (u.lane l).counts.readErrors },
      reader := { (u.lane l).reader with
        state := .offline, failures := 3, offlineSkip := 7, verdict := none, carried := false } })
      (.laneEvent l .readerLost)) (fun k => { k with readerLost := k.readerLost ||| laneBit l }) := by
  have honline : (u.lane l).reader.state = .online := by cases hs : (u.lane l).reader.state with
    | online => rfl
    | offline => exact absurd hs h
  rw [State.failPoll_eq, ReaderContext.fail_online h, if_neg hmany, if_pos ⟨honline, rfl⟩]

/-! ## Good replies -/

theorem ReaderContext.answer_eq (c : ReaderContext) (carried : Bool) : c.answer carried =
    { c with
      failures := 0, state := .online, carried := false,
      offlineSkip := if c.state = .offline then 0 else c.offlineSkip,
      verdict := if carried = true ∧ c.carried = true then none else c.verdict } := by
  cases hs : c.state <;> simp [ReaderContext.answer, hs]

/-- The state after the steps of a good reply that do not look at its kind (R44). -/
def State.answered (s : State) (p : Poll) : State :=
  let answered := s.setLane p.lane { s.lane p.lane with reader := (s.lane p.lane).reader.answer p.verdict.isSome }
  if (s.lane p.lane).reader.state = .offline then answered.append (.laneEvent p.lane .readerBack) else answered

theorem State.answered_lane (s : State) (p : Poll) : (s.answered p).lane p.lane =
    { s.lane p.lane with reader := (s.lane p.lane).reader.answer p.verdict.isSome } := by
  unfold State.answered
  split
  · rw [State.append_lane, State.lane_setLane_same]
  · exact State.lane_setLane_same ..

theorem State.answered_clock (s : State) (p : Poll) : (s.answered p).clock = s.clock := by
  unfold State.answered
  split
  · exact State.append_clock _ _
  · rfl

theorem State.goodReply_idle : s.goodReply p .idle = s.answered p := rfl

theorem State.goodReply_health : s.goodReply p .health = s.answered p := rfl

theorem State.credential_new {c : Credential} (h : (u.lane l).reader.lastTag ≠ some c.tag) :
    u.credential l c = State.arrive
      (u.setLane l { u.lane l with reader := { (u.lane l).reader with
        lastTag := some c.tag,
        lastCredential := some { serial := c.serial, media := c.media, quality := c.quality,
                                 time := u.clock.timeOfDay } } })
      l { serial := c.serial, product := c.product, firstDay := c.firstDay } := if_neg h

theorem State.goodReply_repeated {c : Credential} (h : (s.lane p.lane).reader.lastTag = some c.tag) :
    s.goodReply p (.credential c) = s.answered p := by
  have htag : ((s.answered p).lane p.lane).reader.lastTag = some c.tag := by
    rw [State.answered_lane]
    exact h
  exact if_pos htag

theorem State.goodReply_new {c : Credential} (h : (s.lane p.lane).reader.lastTag ≠ some c.tag) :
    s.goodReply p (.credential c) = State.arrive
      ((s.answered p).setLane p.lane { s.lane p.lane with
        reader := { (s.lane p.lane).reader.answer p.verdict.isSome with
          lastTag := some c.tag,
          lastCredential := some { serial := c.serial, media := c.media, quality := c.quality,
                                   time := s.clock.timeOfDay } } })
      p.lane { serial := c.serial, product := c.product, firstDay := c.firstDay } := by
  have hlane := State.answered_lane s p
  have htag : ¬ ((s.answered p).lane p.lane).reader.lastTag = some c.tag := by
    rw [hlane]
    exact h
  have hgood : s.goodReply p (.credential c) = (s.answered p).credential p.lane c := rfl
  rw [hgood, State.credential_new htag, hlane, State.answered_clock]

end

/-! ## The replies of the layout -/

theorem syncByte_mem {bytes rest : List Byte} (h : bytes = syncByte :: rest) : ∃ b ∈ bytes, b = syncByte :=
  ⟨syncByte, h ▸ List.mem_cons_self, rfl⟩

theorem dropWhile_syncByte {bytes rest : List Byte} (h : bytes = syncByte :: rest) :
    bytes.dropWhile (fun b => b != syncByte) = bytes := by
  rw [h]
  rfl

theorem judge_idleReply (l : Lane.Index) :
    judgeReply l ((idleReply l).dropWhile (fun b => b != syncByte)) = some .idle := by
  rw [dropWhile_syncByte (idleReply_eq l), idleReply_eq, judgeReply_framed, laneByte_toNat, if_pos rfl]
  rfl

theorem judge_credentialReply (l : Lane.Index) {c : Credential} (htag : c.tag ≤ 15) (hserial : 1 ≤ c.serial)
    (hwide : c.serial < 2 ^ 40) (hproduct : c.product < 256) (hday : c.firstDay ≤ 207) (hquality : c.quality ≤ 3) :
    judgeReply l ((credentialReply l c).dropWhile (fun b => b != syncByte)) = some (.credential c) := by
  rw [dropWhile_syncByte (credentialReply_eq l c), credentialReply_eq, judgeReply_framed, laneByte_toNat, if_pos rfl,
    credentialBody, replyOf_credential htag hserial hwide hproduct hday hquality]

/-- Settles O45. -/
theorem exchangesEnd : Obligations.ExchangesEnd := by
  refine ⟨fun s bytes h => ⟨execReplyReceived_ignored h, execPollTimeout_none⟩, fun s p hp hv => ⟨fun bytes hbytes => ?_, ?_⟩,
    fun s p hp hv => ?_⟩
  · rw [execReplyReceived_judged hp hbytes, State.judged_void hv]
    rfl
  · rw [execPollTimeout_judged hp, State.judged_void hv, State.freed_elapse]
    rfl
  · intro l x rest good back free idle
    have hidle : s.freed.answered p = idle := by
      simp only [State.answered, ReaderContext.answer_eq]
      rfl
    have hjudge : ∀ bytes, p.elapsed ≤ 3 → p.judge bytes = judgeReply l bytes := fun bytes h => if_pos h
    have hgood : ∀ bytes r, (∃ b ∈ bytes, b = syncByte) → p.elapsed ≤ 3 →
        judgeReply l (bytes.dropWhile (fun b => b != syncByte)) = some r →
        exec (.replyReceived bytes) s = rest (s.freed.goodReply p r) := fun bytes r hbytes hin hr => by
      rw [execReplyReceived_judged hp hbytes, hjudge _ hin, hr, State.judged_good hv]
    refine ⟨fun hin => ?_, fun c hin htag hserial hwide hproduct hday hquality => ⟨fun hlast => ?_, fun hlast => ?_⟩, ?_⟩
    · rw [hgood _ _ (syncByte_mem (idleReply_eq l)) hin (judge_idleReply l), State.goodReply_idle, hidle]
    · rw [hgood _ _ (syncByte_mem (credentialReply_eq l c)) hin
        (judge_credentialReply l htag hserial hwide hproduct hday hquality), State.goodReply_repeated (s := s.freed) hlast, hidle]
    · rw [hgood _ _ (syncByte_mem (credentialReply_eq l c)) hin
        (judge_credentialReply l htag hserial hwide hproduct hday hquality), State.goodReply_new (s := s.freed) hlast, hidle,
        ReaderContext.answer_eq]
      rfl
    intro failed
    have hfailed : ∀ u : State, u.failPoll l = failed u := fun u => by
      simp only [failed]
      split
      · next h => exact State.failPoll_offline h
      · next h =>
        split
        · next hfew => exact State.failPoll_online h hfew
        · next hmany => exact State.failPoll_lost h hmany
    refine ⟨?_, fun bytes hbytes => ⟨fun h => ?_, fun hin hr => ?_⟩⟩
    · rw [execPollTimeout_judged hp, State.judged_failed hv, State.freed_elapse, hfailed]
      rfl
    · have hnone : p.judge (bytes.dropWhile (fun b => b != syncByte)) = none := by
        by_cases hin : p.elapsed ≤ 3
        · exact (hjudge _ hin).trans (h.resolve_left (by omega))
        · exact if_neg hin
      rw [execReplyReceived_judged hp hbytes, hnone, State.judged_failed hv, hfailed]
      rfl
    · rw [hgood bytes .health hbytes hin hr, State.goodReply_health, hidle]

end Sys2Proof.Machine
